-- ==== Sys2Proof/Word.lean ====
section
/-! DEFINITION. The word types of the block: bytes, the 16-bit SETUP fields and the 7-bit bus
address (10_state.md R21, R29; 30_encoding.md R70). -/
namespace Sys2Proof

/-- `u8` of 00_scope.md R10. -/
abbrev Byte := BitVec 8

/-- `u16` of 00_scope.md R10. -/
abbrev U16 := BitVec 16

/-- `u7` of 00_scope.md R10: a USB bus address, or an endpoint number taken from `idx[6:0]`. -/
abbrev U7 := BitVec 7

end Sys2Proof
end

