-- ==== Sys2Proof/Config.lean ====
section
/-! DEFINITION. The parameters of 00_scope.md R6. An OPEN parameter is a constant with no body, so
that nothing proved here can rest on its value; a parameter the spec fixes has the spec's value.
`draw(T)` of R10 is `Config.freeByte`. -/
namespace Sys2Proof

/-- Legal values of `M`, the maximum packet size of endpoint 0 (00_scope.md R6, D2). -/
inductive Ep0Size where
  | b32
  | b64
  deriving DecidableEq, Repr, Inhabited

/-- The application endpoint slots 1 to 4 (`NUM_APP_EP` = 4, 00_scope.md R6). -/
inductive AppEp where
  | ep1
  | ep2
  | ep3
  | ep4
  deriving DecidableEq, Repr, Inhabited

/-- Buffer banks per direction (10_state.md R32, `KBD_BANKS` of 00_scope.md R6). -/
inductive Banks where
  | one
  | two
  deriving DecidableEq, Repr, Inhabited

/-- What a bus reset does to a dispatcher that waits on the host (00_scope.md R6, D10). -/
inductive ResetInWait where
  | abort
  | hold
  deriving DecidableEq, Repr, Inhabited

/-- The parameters the block's behaviour depends on (00_scope.md R6). -/
structure Params where
  /-- `M` -/
  ep0Size : Ep0Size
  /-- `KBD_EP` -/
  kbdEp : AppEp
  /-- `KBD_BANKS` -/
  kbdBanks : Banks
  /-- `RPT_LEN`, legal range 1 to 255 -/
  rptLen : Nat
  /-- `RESET_IN_WAIT` -/
  resetInWait : ResetInWait
  /-- `APP_WRITES_KEYS` -/
  appWritesKeys : Bool
  deriving DecidableEq, Repr

/-- 16 bits in BCD, four decimal digits, `d0` the least significant: the range of HID_VERSION (00_scope.md R6). -/
structure Bcd16 where
  d3 : Fin 10
  d2 : Fin 10
  d1 : Fin 10
  d0 : Fin 10
  deriving DecidableEq, Repr, Inhabited

/-- The descriptor fields the source does not fix (43_descriptor_engine.md R131, R132). DESIGN CHOICE, safe:
`bcdUsb` and `bcdDevice`, for which the spec gives no range, are any 16-bit value (log entry 19). -/
structure DescParams where
  bcdUsb : U16
  devClass : Byte
  devSubClass : Byte
  devProtocol : Byte
  vid : U16
  pid : U16
  bcdDevice : U16
  iManufacturer : Byte
  iProduct : Byte
  iSerial : Byte
  cfgValue : Byte
  iConfiguration : Byte
  cfgAttributes : Byte
  maxPower : Byte
  iInterface : Byte
  /-- `HID_VERSION` (00_scope.md R6) -/
  hidVersion : Bcd16
  country : Byte
  kbdInterval : Byte
  deriving DecidableEq, Repr, Inhabited

namespace Config

/-- `M`: OPEN (00_scope.md R6). -/
opaque ep0Size : Ep0Size

/-- `KBD_EP`: OPEN (00_scope.md R6). -/
opaque kbdEp : AppEp

/-- `KBD_BANKS`: OPEN (00_scope.md R6). -/
opaque kbdBanks : Banks

/-- `RESET_IN_WAIT`: OPEN (00_scope.md R6). -/
opaque resetInWait : ResetInWait

/-- `RPT_LEN` less one, so that `RPT_LEN` is any of 1 to 255: OPEN (00_scope.md R6). -/
opaque rptLenPred : Fin 255

/-- The bytes of `RPT_DESC`: OPEN (43_descriptor_engine.md R134). -/
opaque rptByte : Nat → Byte

/-- The descriptor fields no source fixes: OPEN (43_descriptor_engine.md R131, R132). -/
opaque desc : DescParams

/-- `IDLE_INIT`, the power-on value of `idle_config`: OPEN (00_scope.md R6, D6). -/
opaque idleInit : Byte

/-- `draw(u8)` (00_scope.md R10, 45_endpoint_engine.md R161): the free byte of the `n`-th draw. -/
opaque freeByte : Nat → Byte

/-- The machine's parameters. `APP_WRITES_KEYS` is false in this build (00_scope.md R6). -/
def params : Params where
  ep0Size := ep0Size
  kbdEp := kbdEp
  kbdBanks := kbdBanks
  rptLen := rptLenPred.val + 1
  resetInWait := resetInWait
  appWritesKeys := false

/-- `RPT_DESC` (43_descriptor_engine.md R134). -/
def rptDesc : List Byte := (List.range (rptLenPred.val + 1)).map rptByte

end Config

/-- `KBD_IF` = 0 (00_scope.md R6). -/
def kbdIf : U16 := 0

end Sys2Proof
end

