-- ==== Sys2Proof/Syntax.lean ====
section
/-! DEFINITION. The instructions: a SETUP packet (30_encoding.md R70) and the decoded form of one,
one constructor per row of opcode_table.json (R78, R83). -/
namespace Sys2Proof

/-- A SETUP packet, exactly 8 bytes `b[0..7]`, first byte first on the wire (30_encoding.md R70). -/
structure SetupPacket where
  b0 : Byte
  b1 : Byte
  b2 : Byte
  b3 : Byte
  b4 : Byte
  b5 : Byte
  b6 : Byte
  b7 : Byte
  deriving DecidableEq, Repr

/-- The stall causes of 60_exceptions.md R181. -/
inductive StallCause where
  | descriptorNotFound
  | badFeatureTarget
  | unsupported
  deriving DecidableEq, Repr

/-- `ControlAction` of 30_encoding.md R78, with GET_DESCRIPTOR and the halt features split by the
rows of opcode_table.json (R83). An operand is what R77 assembles for the action. `stall` keeps
the packet it stands for beside its cause, since that row's mask names no bit of it. -/
inductive Instr where
  | getDescriptorDevice (len : U16)
  | getDescriptorConfiguration (len : U16)
  | getDescriptorHid (len : U16)
  | getDescriptorReport (len : U16)
  | setAddress (a : U7)
  | setConfiguration (v : Byte)
  | getConfiguration
  | getStatusEndpoint (e : U7)
  | getStatus
  | setFeatureHaltEp1
  | setFeatureHaltEp2
  | setFeatureHaltEp3
  | setFeatureHaltEp4
  | clearFeatureHaltEp1
  | clearFeatureHaltEp2
  | clearFeatureHaltEp3
  | clearFeatureHaltEp4
  | hidGetReport
  | hidGetIdle
  | hidGetProtocol
  | hidSetReport
  | hidSetIdle (r : Byte)
  | hidSetProtocol (p : Byte)
  | stall (c : StallCause) (p : SetupPacket)
  deriving DecidableEq, Repr

end Sys2Proof
end

