-- ==== Sys2Proof/Machine/Descriptors.lean ====
section
/-! DEFINITION. The descriptor store: the lookup of GET_DESCRIPTOR (43_descriptor_engine.md R130),
the layouts of the tables (R131, R132) and the ROM image (20_memory.md R56). -/
namespace Sys2Proof.Machine

/-- The four selectors GET_DESCRIPTOR answers (43_descriptor_engine.md R130). -/
inductive DescTable where
  | device
  | configuration
  | hid
  | report
  deriving DecidableEq, Repr

/-- ROM base of a table (43_descriptor_engine.md R130, 20_memory.md R56). -/
def DescTable.base : DescTable → Nat
  | .device => 0x00
  | .configuration => 0x12
  | .hid => 0x24
  | .report => 0x34

/-- `dlen` of a table (43_descriptor_engine.md R130). -/
def DescTable.dlen (p : Params) : DescTable → Nat
  | .device => 18
  | .configuration => 34
  | .hid => 9
  | .report => p.rptLen

/-- `Lookup(val, idx)`: an exact match of both fields (43_descriptor_engine.md R130). -/
def lookup (val idx : U16) : Option DescTable :=
  if val = 0x0100#16 ∧ idx = 0x0000#16 then some .device
  else if val = 0x0200#16 ∧ idx = 0x0000#16 then some .configuration
  else if val = 0x2200#16 ∧ idx = kbdIf then some .report
  else if val = 0x2100#16 ∧ idx = kbdIf then some .hid
  else none

/-- The two bytes of a descriptor field, least significant first (20_memory.md R51). -/
def le16 (v : U16) : List Byte := [v.extractLsb' 0 8, v.extractLsb' 8 8]

/-- The 16-bit value of four BCD digits, four bits each. -/
def bcdWord (v : Bcd16) : U16 :=
  BitVec.ofNat 16 (0x1000 * v.d3.val + 0x100 * v.d2.val + 0x10 * v.d1.val + v.d0.val)

/-- `M` as the byte bMaxPacketSize0. -/
def ep0SizeByte : Ep0Size → Byte
  | .b32 => 32
  | .b64 => 64

/-- `0x80 + KBD_EP`, bEndpointAddress of the keyboard endpoint. -/
def kbdEpAddress : AppEp → Byte
  | .ep1 => 0x81
  | .ep2 => 0x82
  | .ep3 => 0x83
  | .ep4 => 0x84

/-- The device descriptor, 18 bytes (43_descriptor_engine.md R131). -/
def deviceDescriptor (p : Params) (d : DescParams) : List Byte :=
  [18, 0x01] ++ le16 d.bcdUsb ++ [d.devClass, d.devSubClass, d.devProtocol, ep0SizeByte p.ep0Size]
    ++ le16 d.vid ++ le16 d.pid ++ le16 d.bcdDevice
    ++ [d.iManufacturer, d.iProduct, d.iSerial, 1]

/-- The configuration descriptor bundle, 34 bytes (43_descriptor_engine.md R132). -/
def configurationBundle (p : Params) (d : DescParams) : List Byte :=
  [9, 0x02] ++ le16 34 ++ [1, d.cfgValue, d.iConfiguration, d.cfgAttributes, d.maxPower]
    ++ [9, 0x04, 0, 0, 1, 0x03, 0x01, 0x01, d.iInterface]
    ++ [9, 0x21] ++ le16 (bcdWord d.hidVersion) ++ [d.country, 1, 0x22] ++ le16 (BitVec.ofNat 16 p.rptLen)
    ++ [7, 0x05, kbdEpAddress p.kbdEp, 0x03] ++ le16 8 ++ [d.kbdInterval]

/-- The ROM's bytes from address 0: device, bundle, report descriptor (20_memory.md R56). -/
def romImage (p : Params) (d : DescParams) (rpt : List Byte) : List Byte :=
  deviceDescriptor p d ++ configurationBundle p d ++ rpt

/-- Consecutive bytes as memory cells from address `a` on. -/
def cellsFrom (a : Nat) : List Byte → List Host.Cell
  | [] => []
  | b :: bs => (a, b) :: cellsFrom (a + 1) bs

/-- `52 + RPT_LEN`, the number of ROM addresses (20_memory.md R53). -/
def romSize (p : Params) : Nat := p.rptLen + 52

/-- The byte listed at address `a`. An address no cell lists holds nothing. -/
def readCell : List Host.Cell → Nat → Option Byte
  | [], _ => none
  | (k, b) :: cs, a => if k = a then some b else readCell cs a

/-- `n` consecutive bytes from `a`, if every one of them is listed. -/
def readBytes (m : List Host.Cell) (a : Nat) : Nat → Option (List Byte)
  | 0 => some []
  | n + 1 =>
    match readCell m a, readBytes m (a + 1) n with
    | some b, some bs => some (b :: bs)
    | _, _ => none

/-- The canonical form of memory: addresses strictly rising. An unlisted address reads as nothing,
so no entry can equal what it would read as if it were not listed. -/
def memWf : List Host.Cell → Bool
  | [] => true
  | [_] => true
  | (a, _) :: (b, y) :: cs => decide (a < b) && memWf ((b, y) :: cs)

end Sys2Proof.Machine
end

