-- ==== Sys2Proof/Machine/Operands.lean ====
section
/-! DEFINITION. The fields of a SETUP packet (20_memory.md R50, 30_encoding.md R70, R71), the operands the
actions take from them (R77), and the packets no action claims (60_exceptions.md R181). -/
namespace Sys2Proof.Machine

/-- A 16-bit field from its two bytes, least significant byte first (20_memory.md R50). -/
def le16Of (lo hi : Byte) : U16 := lo.setWidth 16 ||| hi.setWidth 16 <<< 8

end Sys2Proof.Machine

namespace Sys2Proof

/-- `rt`, bmRequestType (30_encoding.md R70). -/
def SetupPacket.rt (p : SetupPacket) : Byte := p.b0

/-- `rq`, bRequest (30_encoding.md R70). -/
def SetupPacket.rq (p : SetupPacket) : Byte := p.b1

/-- `val`, wValue (30_encoding.md R70). -/
def SetupPacket.val (p : SetupPacket) : U16 := Machine.le16Of p.b2 p.b3

/-- `idx`, wIndex (30_encoding.md R70). -/
def SetupPacket.idx (p : SetupPacket) : U16 := Machine.le16Of p.b4 p.b5

/-- `len`, wLength (30_encoding.md R70). -/
def SetupPacket.len (p : SetupPacket) : U16 := Machine.le16Of p.b6 p.b7

/-- The packet as the 64-bit little-endian word `P` of 30_encoding.md R71: the bytes do not overlap, so
the sum is the bitwise or. -/
def SetupPacket.word (p : SetupPacket) : BitVec 64 :=
  p.b0.setWidth 64 ||| p.b1.setWidth 64 <<< 8 ||| p.b2.setWidth 64 <<< 16 ||| p.b3.setWidth 64 <<< 24 |||
    p.b4.setWidth 64 <<< 32 ||| p.b5.setWidth 64 <<< 40 ||| p.b6.setWidth 64 <<< 48 ||| p.b7.setWidth 64 <<< 56

/-- The packet whose word `P` is `w`: byte `k` is `P[8k+7:8k]`. -/
def SetupPacket.ofWord (w : BitVec 64) : SetupPacket where
  b0 := w.extractLsb' 0 8
  b1 := w.extractLsb' 8 8
  b2 := w.extractLsb' 16 8
  b3 := w.extractLsb' 24 8
  b4 := w.extractLsb' 32 8
  b5 := w.extractLsb' 40 8
  b6 := w.extractLsb' 48 8
  b7 := w.extractLsb' 56 8

/-- The packet with the given fields, each 16-bit field least significant byte first (R70). -/
def SetupPacket.ofFields (rt rq : Byte) (val idx len : U16) : SetupPacket where
  b0 := rt
  b1 := rq
  b2 := val.extractLsb' 0 8
  b3 := val.extractLsb' 8 8
  b4 := idx.extractLsb' 0 8
  b5 := idx.extractLsb' 8 8
  b6 := len.extractLsb' 0 8
  b7 := len.extractLsb' 8 8

/-- The packet's bytes, first byte first on the wire. -/
def SetupPacket.bytes (p : SetupPacket) : List Byte := [p.b0, p.b1, p.b2, p.b3, p.b4, p.b5, p.b6, p.b7]

/-- A packet from its bytes; a byte sequence of another length is no SETUP packet (R70, R82). -/
def SetupPacket.ofBytes : List Byte → Option SetupPacket
  | [b0, b1, b2, b3, b4, b5, b6, b7] => some ⟨b0, b1, b2, b3, b4, b5, b6, b7⟩
  | _ => none

end Sys2Proof

namespace Sys2Proof.Machine

/-- SET_ADDRESS: the new address is `val[6:0]` (30_encoding.md R77). -/
def addressOperand (val : U16) : U7 := val.extractLsb' 0 7

/-- SET_CONFIGURATION: `trunc_8(val)` (30_encoding.md R77). -/
def configurationOperand (val : U16) : Byte := val.extractLsb' 0 8

/-- GET_STATUS and SET/CLEAR_FEATURE: the endpoint is `idx[6:0]` (30_encoding.md R75, R77). -/
def endpointOperand (idx : U16) : U7 := idx.extractLsb' 0 7

/-- HID SET_IDLE: `val[15:8]` (30_encoding.md R77). -/
def idleOperand (val : U16) : Byte := val.extractLsb' 8 8

/-- HID SET_PROTOCOL: `trunc_8(val)` (30_encoding.md R77). -/
def protocolOperand (val : U16) : Byte := val.extractLsb' 0 8

/-- The application endpoint `e` names, for `1 ≤ e ≤ 4`. -/
def appEpOf (e : U7) : Option AppEp :=
  if e = 1#7 then some .ep1
  else if e = 2#7 then some .ep2
  else if e = 3#7 then some .ep3
  else if e = 4#7 then some .ep4
  else none

/-- The endpoint a SET_FEATURE or CLEAR_FEATURE names, where the row's guard holds: `rq` 0x01 or
0x03, `rt` = 0x02, `val` = 0 (ENDPOINT_HALT) and `1 ≤ idx[6:0] ≤ 4` (30_encoding.md R75, R78). -/
def featureTarget (rt rq : Byte) (val idx : U16) : Option AppEp :=
  if (rq = 0x01#8 ∨ rq = 0x03#8) ∧ rt = 0x02#8 ∧ val = 0#16 then appEpOf (endpointOperand idx) else none

/-- Whether a row of the dispatch table other than GET_DESCRIPTOR and the halt features claims the
packet (30_encoding.md R73, R76, R78). -/
def plainRowClaims (rt rq : Byte) (idx : U16) : Bool :=
  rq == 0x05#8 || rq == 0x00#8 || (rq == 0x09#8 && rt == 0x00#8) || (rq == 0x08#8 && rt == 0x80#8)
    || (idx == kbdIf && rt == 0xA1#8 && (rq == 0x01#8 || rq == 0x02#8 || rq == 0x03#8))
    || (idx == kbdIf && rt == 0x21#8 && (rq == 0x09#8 || rq == 0x0A#8 || rq == 0x0B#8))

/-- The cause a packet is stalled with, by the table of 60_exceptions.md R181; `none` for a packet
some request row claims. -/
def stallCauseOf (p : SetupPacket) : Option StallCause :=
  if p.rq = 0x06#8 then
    if (lookup p.val p.idx).isSome then none else some .descriptorNotFound
  else if (p.rq = 0x01#8 ∨ p.rq = 0x03#8) ∧ p.rt = 0x02#8 then
    if (featureTarget p.rt p.rq p.val p.idx).isSome then none else some .badFeatureTarget
  else if plainRowClaims p.rt p.rq p.idx then none
  else some .unsupported

end Sys2Proof.Machine
end

