-- ==== Sys2Proof/WellFormed.lean ====
section
/-! DEFINITION. Which terms of `Instr` some SETUP packet stands for. Every operand but the stall's
has exactly the width R77 gives it, so only a stall can be ill-formed. -/
namespace Sys2Proof

/-- A stall is well-formed when no request row claims its packet and its cause is the one
60_exceptions.md R181 gives that packet; every other instruction is well-formed. -/
def Instr.wellFormed : Instr → Bool
  | .stall c p => Machine.stallCauseOf p == some c
  | .getDescriptorDevice _ | .getDescriptorConfiguration _ | .getDescriptorHid _ | .getDescriptorReport _
  | .setAddress _ | .setConfiguration _ | .getConfiguration | .getStatusEndpoint _ | .getStatus
  | .setFeatureHaltEp1 | .setFeatureHaltEp2 | .setFeatureHaltEp3 | .setFeatureHaltEp4
  | .clearFeatureHaltEp1 | .clearFeatureHaltEp2 | .clearFeatureHaltEp3 | .clearFeatureHaltEp4
  | .hidGetReport | .hidGetIdle | .hidGetProtocol | .hidSetReport | .hidSetIdle _ | .hidSetProtocol _ => true

end Sys2Proof
end

