-- ==== Sys2Proof/Decode.lean ====
section
/-! DEFINITION. `Decode` of 30_encoding.md R78, the encoder, and the opcode table of R83. -/
namespace Sys2Proof
open Machine

/-- SET_FEATURE(ENDPOINT_HALT) on one of the four slots (42_standard_requests.md R122). -/
def setHaltInstr : AppEp → Instr
  | .ep1 => .setFeatureHaltEp1
  | .ep2 => .setFeatureHaltEp2
  | .ep3 => .setFeatureHaltEp3
  | .ep4 => .setFeatureHaltEp4

/-- CLEAR_FEATURE(ENDPOINT_HALT) on one of the four slots (42_standard_requests.md R123). -/
def clearHaltInstr : AppEp → Instr
  | .ep1 => .clearFeatureHaltEp1
  | .ep2 => .clearFeatureHaltEp2
  | .ep3 => .clearFeatureHaltEp3
  | .ep4 => .clearFeatureHaltEp4

/-- GET_DESCRIPTOR of one of the four tables (42_standard_requests.md R116). -/
def getDescriptorInstr (len : U16) : DescTable → Instr
  | .device => .getDescriptorDevice len
  | .configuration => .getDescriptorConfiguration len
  | .hid => .getDescriptorHid len
  | .report => .getDescriptorReport len

/-- `Decode(b)` of 30_encoding.md R78: total, in the order the rule tests the guards. -/
def decode (p : SetupPacket) : Instr :=
  if p.rq = 0x06#8 then
    match lookup p.val p.idx with
    | some t => getDescriptorInstr p.len t
    | none => .stall .descriptorNotFound p
  else if p.rq = 0x05#8 then .setAddress (addressOperand p.val)
  else if p.rq = 0x09#8 ∧ p.rt = 0x00#8 then .setConfiguration (configurationOperand p.val)
  else if p.rq = 0x08#8 ∧ p.rt = 0x80#8 then .getConfiguration
  else if p.rq = 0x00#8 then
    if p.rt = 0x82#8 then .getStatusEndpoint (endpointOperand p.idx) else .getStatus
  else
    match featureTarget p.rt p.rq p.val p.idx with
    | some e => if p.rq = 0x03#8 then setHaltInstr e else clearHaltInstr e
    | none =>
      if p.idx = kbdIf ∧ p.rt = 0xA1#8 ∧ p.rq = 0x01#8 then .hidGetReport
      else if p.idx = kbdIf ∧ p.rt = 0xA1#8 ∧ p.rq = 0x02#8 then .hidGetIdle
      else if p.idx = kbdIf ∧ p.rt = 0xA1#8 ∧ p.rq = 0x03#8 then .hidGetProtocol
      else if p.idx = kbdIf ∧ p.rt = 0x21#8 ∧ p.rq = 0x09#8 then .hidSetReport
      else if p.idx = kbdIf ∧ p.rt = 0x21#8 ∧ p.rq = 0x0A#8 then .hidSetIdle (idleOperand p.val)
      else if p.idx = kbdIf ∧ p.rt = 0x21#8 ∧ p.rq = 0x0B#8 then .hidSetProtocol (protocolOperand p.val)
      else if (p.rq = 0x01#8 ∨ p.rq = 0x03#8) ∧ p.rt = 0x02#8 then .stall .badFeatureTarget p
      else .stall .unsupported p

/-- Why a byte sequence is no instruction. -/
inductive DecodeReject where
  /-- A SETUP packet is exactly 8 bytes; a packet of another length never reaches the decoder (30_encoding.md R82). -/
  | wrongLength (n : Nat)
  deriving DecidableEq, Repr

/-- The decoder on any bytes: 8 bytes are an instruction, any other number is rejected by name. -/
def decodeBytes (bs : List Byte) : Except DecodeReject Instr :=
  match SetupPacket.ofBytes bs with
  | some p => .ok (decode p)
  | none => .error (.wrongLength bs.length)

/-- The packet of an instruction. DESIGN CHOICE, safe: what the row ignores (30_encoding.md R80) has one value
of the encoder's (log entry 11), that of the instances of 42_standard_requests.md and 44_hid_requests.md, `rt` =
0x80 for every GET_DESCRIPTOR (R84), but for `idx[15:7]` of GET_STATUS on an endpoint and of the halt features,
which is 0 here and has bit 7 set in the instances of R119, R122 and R123. -/
def encode : Instr → SetupPacket
  | .getDescriptorDevice len => .ofFields 0x80 0x06 0x0100 0 len
  | .getDescriptorConfiguration len => .ofFields 0x80 0x06 0x0200 0 len
  | .getDescriptorHid len => .ofFields 0x80 0x06 0x2100 kbdIf len
  | .getDescriptorReport len => .ofFields 0x80 0x06 0x2200 kbdIf len
  | .setAddress a => .ofFields 0x00 0x05 (a.setWidth 16) 0 0
  | .setConfiguration v => .ofFields 0x00 0x09 (v.setWidth 16) 0 0
  | .getConfiguration => .ofFields 0x80 0x08 0 0 1
  | .getStatusEndpoint e => .ofFields 0x82 0x00 0 (e.setWidth 16) 2
  | .getStatus => .ofFields 0x80 0x00 0 0 2
  | .setFeatureHaltEp1 => .ofFields 0x02 0x03 0 1 0
  | .setFeatureHaltEp2 => .ofFields 0x02 0x03 0 2 0
  | .setFeatureHaltEp3 => .ofFields 0x02 0x03 0 3 0
  | .setFeatureHaltEp4 => .ofFields 0x02 0x03 0 4 0
  | .clearFeatureHaltEp1 => .ofFields 0x02 0x01 0 1 0
  | .clearFeatureHaltEp2 => .ofFields 0x02 0x01 0 2 0
  | .clearFeatureHaltEp3 => .ofFields 0x02 0x01 0 3 0
  | .clearFeatureHaltEp4 => .ofFields 0x02 0x01 0 4 0
  | .hidGetReport => .ofFields 0xA1 0x01 0x0100 kbdIf 8
  | .hidGetIdle => .ofFields 0xA1 0x02 0 kbdIf 1
  | .hidGetProtocol => .ofFields 0xA1 0x03 0 kbdIf 1
  | .hidSetReport => .ofFields 0x21 0x09 0x0200 kbdIf 1
  | .hidSetIdle r => .ofFields 0x21 0x0A (le16Of 0 r) kbdIf 0
  | .hidSetProtocol q => .ofFields 0x21 0x0B (q.setWidth 16) kbdIf 0
  | .stall _ p => p

/-- The packet the low `nbits` bits of `w` stand for, numbered as 30_encoding.md R71 numbers `P`:
byte `k` of the packet is bits `8k+7..8k`; the bits above `nbits` are 0. -/
def packetOfTableWord (nbits w : Nat) : SetupPacket := .ofWord (BitVec.ofNat 64 (w % 2 ^ nbits))

/-- The instruction the decoder reads from an instruction whose bits are `w`. -/
def decodeTableWord (nbits w : Nat) : Option Instr :=
  if nbits ≤ 64 then
    match decodeBytes (packetOfTableWord nbits w).bytes with
    | .ok i => some i
    | .error _ => none
  else none

/-- The rows of opcode_table.json (30_encoding.md R83). -/
inductive Row where
  | getDescriptorDevice
  | getDescriptorConfiguration
  | getDescriptorHid
  | getDescriptorReport
  | setAddress
  | setConfiguration
  | getConfiguration
  | getStatusEndpoint
  | getStatus
  | setFeatureHalt (e : AppEp)
  | clearFeatureHalt (e : AppEp)
  | hidGetReport
  | hidGetIdle
  | hidGetProtocol
  | hidSetReport
  | hidSetIdle
  | hidSetProtocol
  | stall
  deriving DecidableEq, Repr

/-- A row's `mask` over `P`, as opcode_table.json gives it. -/
def Row.mask : Row → BitVec 64
  | .getDescriptorDevice | .getDescriptorConfiguration | .getDescriptorHid | .getDescriptorReport =>
    0x0000FFFFFFFFFF00#64
  | .setAddress | .getStatus => 0x000000000000FF00#64
  | .setConfiguration | .getConfiguration | .getStatusEndpoint => 0x000000000000FFFF#64
  | .setFeatureHalt _ | .clearFeatureHalt _ => 0x0000007FFFFFFFFF#64
  | .hidGetReport | .hidGetIdle | .hidGetProtocol | .hidSetReport | .hidSetIdle | .hidSetProtocol =>
    0x0000FFFF0000FFFF#64
  | .stall => 0x0000000000000000#64

/-- A row's `match` over `P`, as opcode_table.json gives it. -/
def Row.pattern : Row → BitVec 64
  | .getDescriptorDevice => 0x0000000001000600#64
  | .getDescriptorConfiguration => 0x0000000002000600#64
  | .getDescriptorHid => 0x0000000021000600#64
  | .getDescriptorReport => 0x0000000022000600#64
  | .setAddress => 0x0000000000000500#64
  | .setConfiguration => 0x0000000000000900#64
  | .getConfiguration => 0x0000000000000880#64
  | .getStatusEndpoint => 0x0000000000000082#64
  | .getStatus => 0x0000000000000000#64
  | .setFeatureHalt .ep1 => 0x0000000100000302#64
  | .setFeatureHalt .ep2 => 0x0000000200000302#64
  | .setFeatureHalt .ep3 => 0x0000000300000302#64
  | .setFeatureHalt .ep4 => 0x0000000400000302#64
  | .clearFeatureHalt .ep1 => 0x0000000100000102#64
  | .clearFeatureHalt .ep2 => 0x0000000200000102#64
  | .clearFeatureHalt .ep3 => 0x0000000300000102#64
  | .clearFeatureHalt .ep4 => 0x0000000400000102#64
  | .hidGetReport => 0x00000000000001A1#64
  | .hidGetIdle => 0x00000000000002A1#64
  | .hidGetProtocol => 0x00000000000003A1#64
  | .hidSetReport => 0x0000000000000921#64
  | .hidSetIdle => 0x0000000000000A21#64
  | .hidSetProtocol => 0x0000000000000B21#64
  | .stall => 0x0000000000000000#64

/-- A row matches a packet when `(P & mask) = match` (30_encoding.md R71). -/
def Row.selects (r : Row) (p : SetupPacket) : Prop := p.word &&& r.mask = r.pattern

/-- How many bits a row's mask sets: the row with the most wins (30_encoding.md R83). -/
def Row.weight (r : Row) : Nat := (List.range 64).countP (fun k => r.mask.getLsbD k)

/-- The row of opcode_table.json an instruction stands for. -/
def Instr.row : Instr → Row
  | .getDescriptorDevice _ => .getDescriptorDevice
  | .getDescriptorConfiguration _ => .getDescriptorConfiguration
  | .getDescriptorHid _ => .getDescriptorHid
  | .getDescriptorReport _ => .getDescriptorReport
  | .setAddress _ => .setAddress
  | .setConfiguration _ => .setConfiguration
  | .getConfiguration => .getConfiguration
  | .getStatusEndpoint _ => .getStatusEndpoint
  | .getStatus => .getStatus
  | .setFeatureHaltEp1 => .setFeatureHalt .ep1
  | .setFeatureHaltEp2 => .setFeatureHalt .ep2
  | .setFeatureHaltEp3 => .setFeatureHalt .ep3
  | .setFeatureHaltEp4 => .setFeatureHalt .ep4
  | .clearFeatureHaltEp1 => .clearFeatureHalt .ep1
  | .clearFeatureHaltEp2 => .clearFeatureHalt .ep2
  | .clearFeatureHaltEp3 => .clearFeatureHalt .ep3
  | .clearFeatureHaltEp4 => .clearFeatureHalt .ep4
  | .hidGetReport => .hidGetReport
  | .hidGetIdle => .hidGetIdle
  | .hidGetProtocol => .hidGetProtocol
  | .hidSetReport => .hidSetReport
  | .hidSetIdle _ => .hidSetIdle
  | .hidSetProtocol _ => .hidSetProtocol
  | .stall _ _ => .stall

end Sys2Proof
end

