-- ==== Sys2Proof/Machine/State.lean ====
section
/-! DEFINITION. The architectural state (10_state.md), the named updates of its fields, and the
state at power-on (70_reset_and_hazards.md R195). -/
namespace Sys2Proof.Machine

/-- The five endpoint register sets: endpoint 0 and the application slots 1 to 4 (10_state.md R32). -/
inductive EpNum where
  | e0
  | e1
  | e2
  | e3
  | e4
  deriving DecidableEq, Repr

/-- The register set of an application slot. -/
def appNum : AppEp → EpNum
  | .ep1 => .e1
  | .ep2 => .e2
  | .ep3 => .e3
  | .ep4 => .e4

/-- Transfer type (10_state.md R32); bulk and isochronous are never configured. -/
inductive EpType where
  | control
  | interrupt
  deriving DecidableEq, Repr

/-- Direction (10_state.md R32): both for endpoint 0, in for the keyboard endpoint. -/
inductive EpDir where
  | both
  | in
  deriving DecidableEq, Repr

/-- Maximum packet size (10_state.md R32). -/
inductive EpSize where
  | b8
  | b16
  | b32
  | b64
  deriving DecidableEq, Repr

/-- The number of bytes a size stands for. -/
def EpSize.bytes : EpSize → Nat
  | .b8 => 8
  | .b16 => 16
  | .b32 => 32
  | .b64 => 64

/-- `M` as an endpoint size (00_scope.md R6). -/
def ep0SizeOf : Ep0Size → EpSize
  | .b32 => .b32
  | .b64 => .b64

/-- The number of banks. -/
def banksCount : Banks → Nat
  | .one => 1
  | .two => 2

/-- Data toggle (10_state.md R32). -/
inductive Toggle where
  | data0
  | data1
  deriving DecidableEq, Repr

/-- `flip` of 45_endpoint_engine.md R163. -/
def Toggle.flip : Toggle → Toggle
  | .data0 => .data1
  | .data1 => .data0

/-- One endpoint's registers (10_state.md R32). A packet of `rxq` is listed by its bytes not yet
read (45_endpoint_engine.md R161). -/
structure Endpoint where
  en : Bool
  type : EpType
  dir : EpDir
  size : EpSize
  banks : Banks
  halt : Bool
  toggle : Toggle
  txq : List (List Byte)
  rxq : List (List Byte)
  deriving DecidableEq, Repr

/-- `EP[0]` to `EP[4]` (10_state.md R32). -/
structure Endpoints where
  ep0 : Endpoint
  ep1 : Endpoint
  ep2 : Endpoint
  ep3 : Endpoint
  ep4 : Endpoint
  deriving DecidableEq, Repr

/-- `EP[i]`. -/
def Endpoints.get (v : Endpoints) : EpNum → Endpoint
  | .e0 => v.ep0
  | .e1 => v.ep1
  | .e2 => v.ep2
  | .e3 => v.ep3
  | .e4 => v.ep4

/-- `EP[i] <- e`, every field. -/
def Endpoints.set (v : Endpoints) (i : EpNum) (e : Endpoint) : Endpoints :=
  match i with
  | .e0 => { v with ep0 := e }
  | .e1 => { v with ep1 := e }
  | .e2 => { v with ep2 := e }
  | .e3 => { v with ep3 := e }
  | .e4 => { v with ep4 := e }

/-- `for i in 1..4: EP[i] <- f i EP[i]`. -/
def Endpoints.mapApp (v : Endpoints) (f : AppEp → Endpoint → Endpoint) : Endpoints where
  ep0 := v.ep0
  ep1 := f .ep1 v.ep1
  ep2 := f .ep2 v.ep2
  ep3 := f .ep3 v.ep3
  ep4 := f .ep4 v.ep4

/-- `keyboard_modifier` and `keyboard_keys[0..5]` (10_state.md R21, R23). -/
structure KeyState where
  modifier : Byte
  key0 : Byte
  key1 : Byte
  key2 : Byte
  key3 : Byte
  key4 : Byte
  key5 : Byte
  deriving DecidableEq, Repr

/-- One byte of the key state (00_scope.md R12). -/
inductive KeySlot where
  | modifier
  | key0
  | key1
  | key2
  | key3
  | key4
  | key5
  deriving DecidableEq, Repr

/-- The dispatcher's control state (10_state.md R34). -/
inductive Ctl where
  | idle
  | setupReceived
  | dataIn (rest : List Byte)
  | dataOut
  | statusIn
  | statusInAddr (a : U7)
  | addressWait (a : U7)
  deriving DecidableEq, Repr

/-- Who steps next and with what: the block itself, a bus event of the host
(45_endpoint_engine.md R155 to R168) or a step of the application (00_scope.md R12). -/
inductive Move where
  | block
  | hostSetup (addr : U7) (e : BitVec 4) (p : List Byte)
  | hostIn (addr : U7) (e : BitVec 4)
  | hostOut (addr : U7) (e : BitVec 4) (xs : List Byte)
  | hostSof
  | hostReset
  | appWrite (slot : KeySlot) (v : Byte)
  | appReadLeds
  deriving DecidableEq, Repr

/-- What the environment's last move got back: nothing, a handshake, a data packet with its PID
(45_endpoint_engine.md R156, R157, R163, R164), or the LED byte the application read. -/
inductive Answer where
  | silent
  | ack
  | nak
  | stall
  | data (pid : Toggle) (bytes : List Byte)
  | leds (b : Byte)
  deriving DecidableEq, Repr

/-- Why the machine stops. The spec says no rule reaches any of these. -/
inductive Fault where
  /-- GET_DESCRIPTOR reads a ROM address that does not exist (20_memory.md R54). Safe. -/
  | romOutOfRange
  /-- `ArmTx` on an endpoint that is not transmit ready (45_endpoint_engine.md R159). Safe. -/
  | armNotReady
  /-- `ArmTx` of a packet longer than the endpoint's size (45_endpoint_engine.md R159). Safe. -/
  | armOversize
  deriving DecidableEq, Repr

/-- A move the model has no step for. -/
inductive Refusal where
  /-- An instruction without a meaning; raised by no arm of this model. Safe. -/
  | notModelled (mnemonic : String)
  /-- An accepted OUT packet longer than the endpoint's size, which R171 assumes the host never sends
  (45_endpoint_engine.md R164, 93_implementation_defined.md U10). Raised by `hostOutEvent`. Safe. -/
  | oversizeOut
  /-- A SETUP of a length other than 8 accepted by endpoint 0, which R171 assumes the host never sends
  (45_endpoint_engine.md R157, 93_implementation_defined.md U10). Raised by `hostSetupEvent`. Safe. -/
  | setupNotEightBytes
  deriving DecidableEq, Repr

/-- The state of the block. `env`, `answer` and `draws` are the model's own fields (log entries 2,
3 and 4); `params` holds the constants of 00_scope.md R6 (log entry 1). -/
structure State where
  /-- `current_configuration` (10_state.md R22) -/
  currentConfiguration : Byte
  /-- `keyboard_modifier`, `keyboard_keys` (10_state.md R23) -/
  keys : KeyState
  /-- `idle_config` (10_state.md R24) -/
  idleConfig : Byte
  /-- `idle_count` (10_state.md R25) -/
  idleCount : Byte
  /-- `protocol` (10_state.md R26) -/
  protocol : Byte
  /-- `leds` (10_state.md R27) -/
  leds : Byte
  /-- `fq` (10_state.md R28) -/
  fq : BitVec 2
  /-- `address` (10_state.md R29) -/
  address : U7
  /-- `reset_pending` (10_state.md R30) -/
  resetPending : Bool
  /-- `sof_pending` (10_state.md R30) -/
  sofPending : Bool
  /-- `setup_pending` (10_state.md R30) -/
  setupPending : Bool
  /-- `setup_buf` (10_state.md R31) -/
  setupBuf : SetupPacket
  /-- `ctl` (10_state.md R34) -/
  ctl : Ctl
  /-- `EP[0..4]` (10_state.md R32) -/
  eps : Endpoints
  /-- `EP[0].setup_ie` (10_state.md R32) -/
  setupIe : Bool
  /-- `last_stall` (10_state.md R41) -/
  lastStall : Option StallCause
  /-- the descriptor ROM (20_memory.md R53, R56) -/
  rom : List Host.Cell
  /-- the parameters (00_scope.md R6) -/
  params : Params
  /-- the moves still to come, next first; with none left the block steps -/
  env : List Move
  /-- what the environment's last move got back -/
  answer : Answer
  /-- how many free values have been drawn (00_scope.md R10 `draw`) -/
  draws : Nat
  deriving DecidableEq, Repr

/-- The outcome of a step. -/
abbrev Result := Host.Outcome State Fault Refusal

namespace State

/-- `current_configuration <- v` -/
def setCurrentConfiguration (s : State) (v : Byte) : State := { s with currentConfiguration := v }
/-- the key state becomes `v` -/
def setKeys (s : State) (v : KeyState) : State := { s with keys := v }
/-- `idle_config <- v` -/
def setIdleConfig (s : State) (v : Byte) : State := { s with idleConfig := v }
/-- `idle_count <- v` -/
def setIdleCount (s : State) (v : Byte) : State := { s with idleCount := v }
/-- `protocol <- v` -/
def setProtocol (s : State) (v : Byte) : State := { s with protocol := v }
/-- `leds <- v` -/
def setLeds (s : State) (v : Byte) : State := { s with leds := v }
/-- `fq <- v` -/
def setFq (s : State) (v : BitVec 2) : State := { s with fq := v }
/-- `address <- v` -/
def setAddress (s : State) (v : U7) : State := { s with address := v }
/-- `reset_pending <- v` -/
def setResetPending (s : State) (v : Bool) : State := { s with resetPending := v }
/-- `sof_pending <- v` -/
def setSofPending (s : State) (v : Bool) : State := { s with sofPending := v }
/-- `setup_pending <- v` -/
def setSetupPending (s : State) (v : Bool) : State := { s with setupPending := v }
/-- `setup_buf <- v` -/
def setSetupBuf (s : State) (v : SetupPacket) : State := { s with setupBuf := v }
/-- `ctl <- v` -/
def setCtl (s : State) (v : Ctl) : State := { s with ctl := v }
/-- every endpoint register becomes that of `v` -/
def setEps (s : State) (v : Endpoints) : State := { s with eps := v }
/-- `EP[0].setup_ie <- v` -/
def setSetupIe (s : State) (v : Bool) : State := { s with setupIe := v }
/-- `last_stall <- v` -/
def setLastStall (s : State) (v : Option StallCause) : State := { s with lastStall := v }
/-- the moves still to come become `v` -/
def setEnv (s : State) (v : List Move) : State := { s with env := v }
/-- the environment gets `v` back -/
def setAnswer (s : State) (v : Answer) : State := { s with answer := v }
/-- `v` free values have been drawn -/
def setDraws (s : State) (v : Nat) : State := { s with draws := v }

/-- `EP[i]` -/
def ep (s : State) (i : EpNum) : Endpoint := s.eps.get i
/-- `EP[i] <- e` -/
def setEp (s : State) (i : EpNum) (e : Endpoint) : State := s.setEps (s.eps.set i e)

end State

/-- An endpoint at power-on (70_reset_and_hazards.md R195): disabled, not halted, DATA0, queues
empty. DESIGN CHOICE, unsafe: `type`, `dir`, `size` and `banks`, for which the spec gives no value,
are Control, Both, 8 and 1 (log entry 6). -/
def Endpoint.powerOn : Endpoint where
  en := false
  type := .control
  dir := .both
  size := .b8
  banks := .one
  halt := false
  toggle := .data0
  txq := []
  rxq := []

/-- Power-on (70_reset_and_hazards.md R195). DESIGN CHOICE, unsafe: `setup_buf`, for which the spec
gives no value, is zero (log entry 5). The ROM holds the image of R56 with the parameters' bytes. -/
def State.reset : State where
  currentConfiguration := 0
  keys := ⟨0, 0, 0, 0, 0, 0, 0⟩
  idleConfig := Config.idleInit
  idleCount := 0
  protocol := 1
  leds := 0
  fq := 0
  address := 0
  resetPending := false
  sofPending := false
  setupPending := false
  setupBuf := ⟨0, 0, 0, 0, 0, 0, 0, 0⟩
  ctl := .idle
  eps := ⟨.powerOn, .powerOn, .powerOn, .powerOn, .powerOn⟩
  setupIe := false
  lastStall := none
  rom := cellsFrom 0 (romImage Config.params Config.desc Config.rptDesc)
  params := Config.params
  env := []
  answer := .silent
  draws := 0

end Sys2Proof.Machine
end

