-- ==== Sys2Proof/Machine/Flags.lean ====
section
/-! DEFINITION. The status flags of 10_state.md R37 and the step enables of the handlers and the
application (60_exceptions.md R176, 41_dispatcher.md R101). -/
namespace Sys2Proof.Machine

/-- Transmit ready of an endpoint: enabled and a bank free (45_endpoint_engine.md R158). -/
def Endpoint.txReady (e : Endpoint) : Bool := e.en && decide (e.txq.length < banksCount e.banks)

/-- Receive ready of an endpoint: enabled and a received packet held (45_endpoint_engine.md R160). -/
def Endpoint.rxReady (e : Endpoint) : Bool := e.en && !e.rxq.isEmpty

/-- `TxReady(i)` -/
def State.txReady (s : State) (i : EpNum) : Bool := (s.ep i).txReady

/-- `RxReady(i)` -/
def State.rxReady (s : State) (i : EpNum) : Bool := (s.ep i).rxReady

/-- A bus-reset or start-of-frame event is pending (10_state.md R30). -/
def State.framePending (s : State) : Bool := s.resetPending || s.sofPending

/-- The frame handler's step is enabled (40_frame_and_reset.md R89, 60_exceptions.md R176). -/
def State.frameEnabled (s : State) : Bool := s.framePending && decide (s.ctl = .idle)

/-- The SETUP source is enabled (60_exceptions.md R176). -/
def State.setupSourceEnabled (s : State) : Bool := (s.ep .e0).en && s.setupIe

/-- The dispatcher's step is enabled: the table of 41_dispatcher.md R101. DESIGN CHOICE, unsafe: at
`SetupReceived` always, as R101 says, also where a bus reset under Hold cleared `setup_pending`, without which
10_state.md R31 says no decode step is enabled (log entry 21). -/
def State.dispatcherEnabled (s : State) : Bool :=
  match s.ctl with
  | .idle => s.setupPending && s.setupSourceEnabled && !s.framePending
  | .setupReceived => true
  | .dataIn _ => s.txReady .e0
  | .dataOut => s.rxReady .e0
  | .statusIn => s.txReady .e0
  | .statusInAddr _ => s.txReady .e0
  | .addressWait _ => s.txReady .e0

/-- The application's write step is enabled (00_scope.md R12, 60_exceptions.md R176). -/
def State.appWriteEnabled (s : State) : Bool := s.params.appWritesKeys && decide (s.ctl = .idle)

end Sys2Proof.Machine
end

