-- ==== Sys2Proof/Machine/Ops.lean ====
section
/-! DEFINITION. The operations the handlers share: ROM reads, the endpoint primitives of
45_endpoint_engine.md, the free value, the stall (the block's one error response) and the ways a
request's decode step ends. -/
namespace Sys2Proof.Machine

/-- `MemRead(addr, n)`: the `n` ROM bytes from `addr` on, defined only inside the ROM (20_memory.md R54). -/
def State.memRead (s : State) (addr n : Nat) : Option (List Byte) :=
  if addr + n ≤ romSize s.params then readBytes s.rom addr n else none

/-- `draw(u8)`: a free byte, a fresh one at each draw (00_scope.md R10, log entry 4). -/
def State.drawByte (s : State) : Byte × State := (Config.freeByte s.draws, s.setDraws (s.draws + 1))

/-- `ArmTx(i, xs)`: append a packet to the armed ones (45_endpoint_engine.md R159). Arming an endpoint
that is not ready, or more bytes than its size, is a model fault no rule reaches. -/
def State.armTx (s : State) (i : EpNum) (xs : List Byte) : Except Fault State :=
  if s.txReady i = false then .error .armNotReady
  else if (s.ep i).size.bytes < xs.length then .error .armOversize
  else .ok (s.setEp i { s.ep i with txq := (s.ep i).txq ++ [xs] })

/-- `RxRead(i)`: the first unread byte of the oldest received packet; a packet with none left gives a
free byte (45_endpoint_engine.md R161). Used only where a packet is held (log entry 12). -/
def State.rxRead (s : State) (i : EpNum) : Byte × State :=
  match (s.ep i).rxq with
  | (b :: bs) :: rest => (b, s.setEp i { s.ep i with rxq := bs :: rest })
  | [] :: _ => s.drawByte
  | [] => s.drawByte

/-- `RxRelease(i)`: drop the oldest received packet with its unread bytes (45_endpoint_engine.md R162). -/
def State.rxRelease (s : State) (i : EpNum) : State := s.setEp i { s.ep i with rxq := (s.ep i).rxq.tail }

/-- `stall()`: `EP[i].halt <- 1` (45_endpoint_engine.md R172, 60_exceptions.md R182). -/
def State.raiseStall (s : State) (i : EpNum) : State := s.setEp i { s.ep i with halt := true }

/-- `unstall()`: `EP[i].halt <- 0` (45_endpoint_engine.md R172). -/
def State.clearStall (s : State) (i : EpNum) : State := s.setEp i { s.ep i with halt := false }

/-- `EP[i].toggle <- t` -/
def State.setToggle (s : State) (i : EpNum) (t : Toggle) : State := s.setEp i { s.ep i with toggle := t }

/-- `EP[i].txq <- []; EP[i].rxq <- []` -/
def State.dropPackets (s : State) (i : EpNum) : State := s.setEp i { s.ep i with txq := [], rxq := [] }

/-- The error response: endpoint 0 is halted, the cause recorded, and the dispatcher returns to
`Idle` (41_dispatcher.md R106). Nothing is saved (60_exceptions.md R175, R180). -/
def State.takeStall (s : State) (c : StallCause) : State :=
  ((s.raiseStall .e0).setLastStall (some c)).setCtl .idle

/-- A slot disabled and reset: the loop body of 42_standard_requests.md R120 and
45_endpoint_engine.md R168. -/
def Endpoint.disable (e : Endpoint) : Endpoint :=
  { e with en := false, halt := false, toggle := .data0, txq := [], rxq := [] }

/-- Endpoints 1 to 4 disabled and reset. -/
def State.disableApp (s : State) : State := s.setEps (s.eps.mapApp fun _ e => e.disable)

/-- The Endpoint Configuration Table: the keyboard slot is enabled as Interrupt, In, 8 bytes,
`KBD_BANKS` banks; every other slot's entry is disabled (10_state.md R36). -/
def configureSlot (p : Params) (i : AppEp) (e : Endpoint) : Endpoint :=
  if i = p.kbdEp then
    { e with en := true, type := .interrupt, dir := .in, size := .b8, banks := p.kbdBanks }
  else e

/-- The second loop of SET_CONFIGURATION: slots the table enables are configured (42_standard_requests.md R120). -/
def State.configureApp (s : State) : State := s.setEps (s.eps.mapApp (configureSlot s.params))

/-- The register set of the keyboard endpoint `KBD_EP`. -/
def State.kbd (s : State) : EpNum := appNum s.params.kbdEp

/-- The boot-keyboard report: modifier, a reserved zero byte, six keycodes (20_memory.md R52). -/
def KeyState.report (k : KeyState) : List Byte :=
  [k.modifier, 0x00, k.key0, k.key1, k.key2, k.key3, k.key4, k.key5]

/-- One byte of the key state replaced (00_scope.md R12). -/
def KeyState.write (k : KeyState) (slot : KeySlot) (v : Byte) : KeyState :=
  match slot with
  | .modifier => { k with modifier := v }
  | .key0 => { k with key0 := v }
  | .key1 => { k with key1 := v }
  | .key2 => { k with key2 := v }
  | .key3 => { k with key3 := v }
  | .key4 => { k with key4 := v }
  | .key5 => { k with key5 := v }

/-- The outcome of work that ends in a state or a model fault. -/
def resultOf : Except Fault State → Result
  | .ok s => .next s
  | .error f => .fault f

/-- A request with an IN data stage: `ctl <- DataIn(bs)` (41_dispatcher.md R104). -/
def State.answerWith (s : State) (bs : List Byte) : Result := .next (s.setCtl (.dataIn bs))

/-- A request without a data stage: `ctl <- StatusIn` (41_dispatcher.md R104). -/
def State.noData (s : State) : Result := .next (s.setCtl .statusIn)

end Sys2Proof.Machine
end

