-- ==== Sys2Proof/Machine/Bus.lean ====
section
/-! DEFINITION. The environment's moves: the host's bus events (45_endpoint_engine.md section 2) and
the application's steps (00_scope.md R12). -/
namespace Sys2Proof.Machine

/-- The endpoint register set a token's endpoint number names, if `e ≤ 4` (45_endpoint_engine.md R156). -/
def epOfToken (e : BitVec 4) : Option EpNum :=
  if e = 0#4 then some .e0
  else if e = 1#4 then some .e1
  else if e = 2#4 then some .e2
  else if e = 3#4 then some .e3
  else if e = 4#4 then some .e4
  else none

/-- Token acceptance: the endpoint that takes part in the transaction, if any (45_endpoint_engine.md R156). -/
def State.accepts (s : State) (addr : U7) (e : BitVec 4) : Option EpNum :=
  match epOfToken e with
  | some i => if addr = s.address ∧ (s.ep i).en = true then some i else none
  | none => none

/-- What an accepted SETUP does: latch it, clear the halt, drop the previous transfer's packets, set
the toggle, and restart a dispatcher that was active (45_endpoint_engine.md R157, 41_dispatcher.md R105). -/
def State.latchSetup (s : State) (p : SetupPacket) : State :=
  let t := ((((s.setSetupBuf p).clearStall .e0).dropPackets .e0).setToggle .e0 .data1).setSetupPending true
  if t.ctl = .idle then t else t.setCtl .setupReceived

/-- SETUP transaction (45_endpoint_engine.md R157); ignored by every endpoint but 0 (D43). One of another length
than 8 has no step on endpoint 0 (R171, log entry 9); DESIGN CHOICE, unsafe: on an enabled slot it is ignored as
one of 8 bytes is (log entry 20). -/
def hostSetupEvent (addr : U7) (e : BitVec 4) (bytes : List Byte) (s : State) : Result :=
  match s.accepts addr e with
  | some .e0 =>
    match SetupPacket.ofBytes bytes with
    | some p => .next ((s.latchSetup p).setAnswer .ack)
    | none => .refused .setupNotEightBytes
  | _ => .next (s.setAnswer .silent)

/-- IN transaction on endpoint `i` (45_endpoint_engine.md R163). -/
def State.takeIn (s : State) (i : EpNum) : State :=
  if (s.ep i).halt then s.setAnswer .stall
  else
    match (s.ep i).txq with
    | [] => s.setAnswer .nak
    | xs :: rest =>
      (s.setEp i { s.ep i with txq := rest, toggle := (s.ep i).toggle.flip }).setAnswer (.data (s.ep i).toggle xs)

/-- IN transaction (45_endpoint_engine.md R163). -/
def hostInEvent (addr : U7) (e : BitVec 4) (s : State) : Result :=
  match s.accepts addr e with
  | some i => .next (s.takeIn i)
  | none => .next (s.setAnswer .silent)

/-- OUT transaction on endpoint `i` of a packet that fits (45_endpoint_engine.md R164). -/
def State.takeOut (s : State) (i : EpNum) (xs : List Byte) : State :=
  if (s.ep i).dir = .in then s.setAnswer .silent
  else if (s.ep i).halt then s.setAnswer .stall
  else if (s.ep i).rxq.length = banksCount (s.ep i).banks then s.setAnswer .nak
  else (s.setEp i { s.ep i with rxq := (s.ep i).rxq ++ [xs] }).setAnswer .ack

/-- OUT transaction (45_endpoint_engine.md R164). A packet longer than the endpoint's size has no
step (R171, U10). -/
def hostOutEvent (addr : U7) (e : BitVec 4) (xs : List Byte) (s : State) : Result :=
  match s.accepts addr e with
  | some i => if (s.ep i).size.bytes < xs.length then .refused .oversizeOut else .next (s.takeOut i xs)
  | none => .next (s.setAnswer .silent)

/-- Start of frame (45_endpoint_engine.md R167). -/
def hostSofEvent (s : State) : Result := .next ((s.setSofPending true).setAnswer .silent)

/-- Bus reset, at the bus event (45_endpoint_engine.md R168). DESIGN CHOICE, unsafe: under Hold the dispatcher
goes on, and what it writes before the reset is handled stands (log entries 21, 22 and 23). -/
def State.busReset (s : State) : State :=
  let t := (((s.setAddress 0).disableApp).setSetupPending false).setResetPending true
  match t.params.resetInWait with
  | .abort => t.setCtl .idle
  | .hold => t

/-- Bus reset (45_endpoint_engine.md R168). -/
def hostResetEvent (s : State) : Result := .next (s.busReset.setAnswer .silent)

/-- The application writes one byte of the key state, where it may (00_scope.md R12); where it may not
it has no write step, and the move is dropped (log entry 8). -/
def appWriteEvent (slot : KeySlot) (v : Byte) (s : State) : Result :=
  if s.appWriteEnabled then .next ((s.setKeys (s.keys.write slot v)).setAnswer .silent)
  else .next (s.setAnswer .silent)

/-- The application reads `leds` (00_scope.md R12, 20_memory.md R59). -/
def appReadLedsEvent (s : State) : Result := .next (s.setAnswer (.leds s.leds))

end Sys2Proof.Machine
end

