-- ==== Sys2Proof/Machine/Hid.lean ====
section
/-! DEFINITION. The decode-step work of the HID class requests (44_hid_requests.md). -/
namespace Sys2Proof.Machine

/-- HID GET_REPORT: the 8-byte report, whatever `protocol` holds (44_hid_requests.md R145, R150). -/
def execHidGetReport (s : State) : Result := s.answerWith s.keys.report

/-- HID GET_IDLE (44_hid_requests.md R147). -/
def execHidGetIdle (s : State) : Result := s.answerWith [s.idleConfig]

/-- HID GET_PROTOCOL (44_hid_requests.md R149). -/
def execHidGetProtocol (s : State) : Result := s.answerWith [s.protocol]

/-- HID SET_REPORT, decode step: wait for the host's data packet (44_hid_requests.md R151). -/
def execHidSetReport (s : State) : Result := .next (s.setCtl .dataOut)

/-- HID SET_IDLE (44_hid_requests.md R152). -/
def execHidSetIdle (r : Byte) (s : State) : Result := ((s.setIdleConfig r).setIdleCount 0).noData

/-- HID SET_PROTOCOL (44_hid_requests.md R153). -/
def execHidSetProtocol (p : Byte) (s : State) : Result := (s.setProtocol p).noData

end Sys2Proof.Machine
end

