-- ==== Sys2Proof/Machine/Standard.lean ====
section
/-! DEFINITION. The decode-step work of the standard requests (42_standard_requests.md). -/
namespace Sys2Proof.Machine

/-- GET_DESCRIPTOR of table `t`: stream `min(len, dlen)` of its bytes
(42_standard_requests.md R116, 43_descriptor_engine.md R136). -/
def getDescriptor (t : DescTable) (len : U16) (s : State) : Result :=
  match s.memRead t.base (min len.toNat (t.dlen s.params)) with
  | some bs => s.answerWith bs
  | none => .fault .romOutOfRange

/-- GET_DESCRIPTOR(DEVICE) (42_standard_requests.md R116). -/
def execGetDescriptorDevice (len : U16) (s : State) : Result := getDescriptor .device len s

/-- GET_DESCRIPTOR(CONFIGURATION) (42_standard_requests.md R116). -/
def execGetDescriptorConfiguration (len : U16) (s : State) : Result := getDescriptor .configuration len s

/-- GET_DESCRIPTOR(HID) (42_standard_requests.md R116, 43_descriptor_engine.md R133). -/
def execGetDescriptorHid (len : U16) (s : State) : Result := getDescriptor .hid len s

/-- GET_DESCRIPTOR(REPORT) (42_standard_requests.md R116). -/
def execGetDescriptorReport (len : U16) (s : State) : Result := getDescriptor .report len s

/-- SET_ADDRESS, decode step: the address is written only after the status packet is taken
(42_standard_requests.md R118). -/
def execSetAddress (a : U7) (s : State) : Result := .next (s.setCtl (.statusInAddr a))

/-- SET_CONFIGURATION: record the value, reset slots 1 to 4, configure the table's slots
(42_standard_requests.md R120). -/
def execSetConfiguration (v : Byte) (s : State) : Result :=
  (((s.setCurrentConfiguration v).disableApp).configureApp).noData

/-- GET_CONFIGURATION (42_standard_requests.md R121). -/
def execGetConfiguration (s : State) : Result := s.answerWith [s.currentConfiguration]

/-- The halt bit GET_STATUS reports for endpoint `e`; 0 for `e ≥ 5` (42_standard_requests.md R119). -/
def haltReported (e : U7) (s : State) : Bool :=
  if e = 0#7 then (s.ep .e0).halt
  else
    match appEpOf e with
    | some a => (s.ep (appNum a)).halt
    | none => false

/-- GET_STATUS on an endpoint: `[h, 0x00]` (42_standard_requests.md R119). -/
def execGetStatusEndpoint (e : U7) (s : State) : Result :=
  s.answerWith [if haltReported e s then 0x01 else 0x00, 0x00]

/-- GET_STATUS on anything else: two zero bytes (42_standard_requests.md R119). -/
def execGetStatus (s : State) : Result := s.answerWith [0x00, 0x00]

/-- SET_FEATURE(ENDPOINT_HALT) on slot `e` (42_standard_requests.md R122). DESIGN CHOICE, unsafe: a bit set
between a bus reset under Hold and its handling stays set (log entry 23). -/
def setHalt (e : AppEp) (s : State) : Result := (s.raiseStall (appNum e)).noData

/-- SET_FEATURE(ENDPOINT_HALT), endpoint 1. -/
def execSetFeatureHaltEp1 (s : State) : Result := setHalt .ep1 s

/-- SET_FEATURE(ENDPOINT_HALT), endpoint 2. -/
def execSetFeatureHaltEp2 (s : State) : Result := setHalt .ep2 s

/-- SET_FEATURE(ENDPOINT_HALT), endpoint 3. -/
def execSetFeatureHaltEp3 (s : State) : Result := setHalt .ep3 s

/-- SET_FEATURE(ENDPOINT_HALT), endpoint 4. -/
def execSetFeatureHaltEp4 (s : State) : Result := setHalt .ep4 s

/-- CLEAR_FEATURE(ENDPOINT_HALT) on slot `e`: halt cleared, toggle DATA0, armed banks kept
(42_standard_requests.md R123). -/
def clearHalt (e : AppEp) (s : State) : Result :=
  ((s.clearStall (appNum e)).setToggle (appNum e) .data0).noData

/-- CLEAR_FEATURE(ENDPOINT_HALT), endpoint 1. -/
def execClearFeatureHaltEp1 (s : State) : Result := clearHalt .ep1 s

/-- CLEAR_FEATURE(ENDPOINT_HALT), endpoint 2. -/
def execClearFeatureHaltEp2 (s : State) : Result := clearHalt .ep2 s

/-- CLEAR_FEATURE(ENDPOINT_HALT), endpoint 3. -/
def execClearFeatureHaltEp3 (s : State) : Result := clearHalt .ep3 s

/-- CLEAR_FEATURE(ENDPOINT_HALT), endpoint 4. -/
def execClearFeatureHaltEp4 (s : State) : Result := clearHalt .ep4 s

/-- STALL: the packet is unrecognized (41_dispatcher.md R106). -/
def execStall (c : StallCause) (s : State) : Result := .next (s.takeStall c)

end Sys2Proof.Machine
end

