-- ==== Sys2Proof/Machine/Dispatch.lean ====
section
/-! DEFINITION. `Execute(a)` of 41_dispatcher.md R104: one arm per row of opcode_table.json. -/
namespace Sys2Proof.Machine

/-- `Execute(a)`: the work of the decode step and the first control state (41_dispatcher.md R104). -/
def exec (i : Instr) (s : State) : Host.Outcome State Fault Refusal :=
  match i with
  | .getDescriptorDevice len => Sys2Proof.Machine.execGetDescriptorDevice len s
  | .getDescriptorConfiguration len => Sys2Proof.Machine.execGetDescriptorConfiguration len s
  | .getDescriptorHid len => Sys2Proof.Machine.execGetDescriptorHid len s
  | .getDescriptorReport len => Sys2Proof.Machine.execGetDescriptorReport len s
  | .setAddress a => Sys2Proof.Machine.execSetAddress a s
  | .setConfiguration v => Sys2Proof.Machine.execSetConfiguration v s
  | .getConfiguration => Sys2Proof.Machine.execGetConfiguration s
  | .getStatusEndpoint e => Sys2Proof.Machine.execGetStatusEndpoint e s
  | .getStatus => Sys2Proof.Machine.execGetStatus s
  | .setFeatureHaltEp1 => Sys2Proof.Machine.execSetFeatureHaltEp1 s
  | .setFeatureHaltEp2 => Sys2Proof.Machine.execSetFeatureHaltEp2 s
  | .setFeatureHaltEp3 => Sys2Proof.Machine.execSetFeatureHaltEp3 s
  | .setFeatureHaltEp4 => Sys2Proof.Machine.execSetFeatureHaltEp4 s
  | .clearFeatureHaltEp1 => Sys2Proof.Machine.execClearFeatureHaltEp1 s
  | .clearFeatureHaltEp2 => Sys2Proof.Machine.execClearFeatureHaltEp2 s
  | .clearFeatureHaltEp3 => Sys2Proof.Machine.execClearFeatureHaltEp3 s
  | .clearFeatureHaltEp4 => Sys2Proof.Machine.execClearFeatureHaltEp4 s
  | .hidGetReport => Sys2Proof.Machine.execHidGetReport s
  | .hidGetIdle => Sys2Proof.Machine.execHidGetIdle s
  | .hidGetProtocol => Sys2Proof.Machine.execHidGetProtocol s
  | .hidSetReport => Sys2Proof.Machine.execHidSetReport s
  | .hidSetIdle r => Sys2Proof.Machine.execHidSetIdle r s
  | .hidSetProtocol p => Sys2Proof.Machine.execHidSetProtocol p s
  | .stall c _ => Sys2Proof.Machine.execStall c s

end Sys2Proof.Machine
end

