-- ==== Sys2Proof/Machine/Frame.lean ====
section
/-! DEFINITION. The bus-reset / start-of-frame handler (40_frame_and_reset.md). -/
namespace Sys2Proof.Machine

/-- Endpoint 0's default configuration; the toggle keeps its value (10_state.md R33, 40_frame_and_reset.md R90). -/
def Endpoint.defaultEp0 (p : Params) (e : Endpoint) : Endpoint :=
  { e with en := true, type := .control, dir := .both, size := ep0SizeOf p.ep0Size, banks := .one,
           halt := false, txq := [], rxq := [] }

/-- Bus-reset work (40_frame_and_reset.md R90). DESIGN CHOICE, unsafe: a slot that a SET_CONFIGURATION enabled
between the bus event and this work, possible under Hold only, stays enabled, since R90 writes no slot, although
10_state.md R39 (b) infers that none is (log entry 22); so do a halt bit and an address written in between,
which 70_reset_and_hazards.md R197 lists as 0 (log entry 23). -/
def State.resetWork (s : State) : State :=
  (((s.setResetPending false).setEp .e0 ((s.ep .e0).defaultEp0 s.params)).setSetupIe true).setCurrentConfiguration 0

/-- Report flush: arm one report on the keyboard endpoint (40_frame_and_reset.md R93). -/
def State.flushReport (s : State) : Except Fault State := s.armTx s.kbd s.keys.report

/-- Idle tick (40_frame_and_reset.md R92, R94). -/
def State.idleTick (s : State) : Except Fault State :=
  if s.idleConfig ≠ 0#8 ∧ s.txReady s.kbd = true then
    if s.idleCount + 1#8 = s.idleConfig then (s.setIdleCount 0).flushReport
    else .ok (s.setIdleCount (s.idleCount + 1#8))
  else .ok s

/-- SOF work: every fourth invocation while configured is an idle tick (40_frame_and_reset.md R91). -/
def State.sofWork (s : State) : Except Fault State :=
  let t := s.setSofPending false
  if t.currentConfiguration ≠ 0#8 then
    let u := t.setFq (t.fq + 1#2)
    if u.fq = 0#2 then u.idleTick else .ok u
  else .ok t

/-- The handler's one step: reset work, then SOF work, each if pending (40_frame_and_reset.md R89). -/
def State.frameStep (s : State) : Except Fault State :=
  let t := if s.resetPending then s.resetWork else s
  if t.sofPending then t.sofWork else .ok t

end Sys2Proof.Machine
end

