-- ==== Sys2Proof/Machine/Waits.lean ====
section
/-! DEFINITION. The dispatcher's steps after the decode step: the streaming engine
(43_descriptor_engine.md R138), the SET_REPORT byte (44_hid_requests.md R151), the status packet
(41_dispatcher.md R107) and the two SET_ADDRESS steps (42_standard_requests.md R118). Each is called
only where its wait is over (41_dispatcher.md R101). -/
namespace Sys2Proof.Machine

/-- Chunk step of `DataIn(rest)`: arm at most `M` bytes, keep the others (43_descriptor_engine.md R138). -/
def chunkStep (rest : List Byte) (s : State) : Except Fault State :=
  let n := min rest.length (ep0SizeOf s.params.ep0Size).bytes
  match s.armTx .e0 (rest.take n) with
  | .ok t => .ok (t.setCtl (if (rest.drop n).isEmpty then .idle else .dataIn (rest.drop n)))
  | .error f => .error f

/-- SET_REPORT with its data packet held: the first byte goes to `leds`, the packet is released
(44_hid_requests.md R151). -/
def reportByteStep (s : State) : State :=
  let r := s.rxRead .e0
  ((r.2.setLeds r.1).rxRelease .e0).setCtl .statusIn

/-- Status packet of a request without an IN data stage (41_dispatcher.md R107). -/
def statusStep (s : State) : Except Fault State :=
  match s.armTx .e0 [] with
  | .ok t => .ok (t.setCtl .idle)
  | .error f => .error f

/-- Status packet of SET_ADDRESS (42_standard_requests.md R118). -/
def statusAddrStep (a : U7) (s : State) : Except Fault State :=
  match s.armTx .e0 [] with
  | .ok t => .ok (t.setCtl (.addressWait a))
  | .error f => .error f

/-- The status packet was taken: the address takes effect (42_standard_requests.md R118). DESIGN CHOICE, unsafe:
it does so also after a bus reset under Hold, where 70_reset_and_hazards.md R197 lists address 0 (log entry 23). -/
def addressStep (a : U7) (s : State) : State := (s.setAddress a).setCtl .idle

end Sys2Proof.Machine
end

