-- ==== Sys2Proof/Machine/Scheduler.lean ====
section
/-! DEFINITION. Who steps: the decode step (41_dispatcher.md R103), the block's one enabled handler
(60_exceptions.md R176, R178), and the interleaving with the environment (20_memory.md R62). -/
namespace Sys2Proof.Machine

/-- Decode step: take the packet from `setup_buf`, clear `setup_pending`, decode, execute
(41_dispatcher.md R103). -/
def decodeStep (s : State) : Result := exec (decode s.setupBuf) (s.setSetupPending false)

/-- The dispatcher's step in its control state (41_dispatcher.md R101), once enabled. -/
def dispatcherStep (s : State) : Result :=
  match s.ctl with
  | .idle => decodeStep s
  | .setupReceived => decodeStep s
  | .dataIn rest => resultOf (chunkStep rest s)
  | .dataOut => .next (reportByteStep s)
  | .statusIn => resultOf (statusStep s)
  | .statusInAddr a => resultOf (statusAddrStep a s)
  | .addressWait a => .next (addressStep a s)

/-- The block's turn: the frame handler if it is enabled, else the dispatcher if it is (60_exceptions.md
R176, R178); with neither enabled the block holds and nothing changes (00_scope.md R11). -/
def blockStep (s : State) : Result :=
  if s.frameEnabled then resultOf s.frameStep
  else if s.dispatcherEnabled then dispatcherStep s
  else .next s

/-- One move of the interleaving (20_memory.md R62). -/
def runMove (m : Move) (s : State) : Result :=
  match m with
  | .block => blockStep s
  | .hostSetup addr e p => hostSetupEvent addr e p s
  | .hostIn addr e => hostInEvent addr e s
  | .hostOut addr e xs => hostOutEvent addr e xs s
  | .hostSof => hostSofEvent s
  | .hostReset => hostResetEvent s
  | .appWrite slot v => appWriteEvent slot v s
  | .appReadLeds => appReadLedsEvent s

/-- The move that comes next: the first of `env`, or the block's turn when none is left (log entry 2). -/
def State.nextMove (s : State) : Move :=
  match s.env with
  | [] => .block
  | m :: _ => m

/-- The state with the next move taken off `env`. -/
def State.popMove (s : State) : State := s.setEnv s.env.tail

/-- A latched packet that the block's very next turn decodes: the dispatcher stands at
`SetupReceived` with `p` in `setup_buf`, and the block moves next (log entry 10). -/
def State.withSetup (s : State) (p : SetupPacket) : State :=
  (((s.setSetupBuf p).setSetupPending true).setCtl .setupReceived).setEnv (.block :: s.env)

end Sys2Proof.Machine
end

