-- ==== Sys2Proof/Machine/Step.lean ====
section
/-! DEFINITION. One step of the machine: the next move of the interleaving. -/
namespace Sys2Proof.Machine

/-- One step: the next move of `env`, or the block's own turn when none is left
(00_scope.md R7, R8, 20_memory.md R62). -/
def step (s : State) : Host.Outcome State Fault Refusal := runMove s.nextMove s.popMove

/-- `s` with the instruction whose bits are `w` latched where the decode step reads it, so that the
very next step decodes and executes it (log entry 10). -/
def State.withFetchWord (s : State) (nbits w : Nat) : State := s.withSetup (packetOfTableWord nbits w)

end Sys2Proof.Machine
end

