-- ==== Sys2Proof/Safety.lean ====
section
/-! DEFINITION. What the claims are stated in: playing a list of moves and collecting what the
environment gets back, the state between transfers, and the invariant of the reachable states. -/
namespace Sys2Proof.Machine

/-- Play moves one after another and collect what each move of the environment got back. A move that
faults or is refused ends the play with nothing. -/
def play : List Move → State → Option (List Answer × State)
  | [], s => some ([], s)
  | m :: ms, s =>
    match runMove m s with
    | .next t =>
      match play ms t with
      | some (as, u) => some (if m = .block then as else t.answer :: as, u)
      | none => none
    | _ => none

/-- `n` times the same moves. -/
def rounds (n : Nat) (ms : List Move) : List Move := (List.replicate n ms).flatten

/-- The PID after `n` packets, the first of which is sent with `t` (45_endpoint_engine.md R166). -/
def Toggle.after (t : Toggle) (n : Nat) : Toggle := if n % 2 = 0 then t else t.flip

/-- A token's endpoint number for a slot (45_endpoint_engine.md R156). -/
def tokenOf : AppEp → BitVec 4
  | .ep1 => 1
  | .ep2 => 2
  | .ep3 => 3
  | .ep4 => 4

namespace State

/-- Endpoint 0 in its default configuration (10_state.md R33), its queues aside. -/
def Ep0Default (s : State) : Prop :=
  (s.ep .e0).en = true ∧ (s.ep .e0).type = .control ∧ (s.ep .e0).dir = .both ∧
    (s.ep .e0).size = ep0SizeOf s.params.ep0Size ∧ (s.ep .e0).banks = .one

/-- Between transfers: the dispatcher is idle, endpoint 0 answers and takes a SETUP, and no frame
event waits. -/
def Ready (s : State) : Prop :=
  s.ctl = .idle ∧ s.Ep0Default ∧ s.setupIe = true ∧ s.framePending = false

/-- The ROM is memory in canonical form and holds a byte at each of its addresses (20_memory.md R53, R54). -/
def RomLoaded (s : State) : Prop :=
  memWf s.rom = true ∧ ∀ a, a < romSize s.params → (readCell s.rom a).isSome = true

end State

/-- The queues hold at most `banks` packets, none longer than `size` (10_state.md R32). -/
def Endpoint.QueuesFit (e : Endpoint) : Prop :=
  e.txq.length ≤ banksCount e.banks ∧ e.rxq.length ≤ banksCount e.banks ∧
    (∀ xs ∈ e.txq, xs.length ≤ e.size.bytes) ∧ (∀ xs ∈ e.rxq, xs.length ≤ e.size.bytes)

/-- A control state whose wait needs endpoint 0's bank free, and in which the SETUP's flush of it
still stands (41_dispatcher.md R107). -/
def Ctl.bankUntouched : Ctl → Prop
  | .setupReceived | .dataOut | .statusIn | .statusInAddr _ => True
  | .idle | .dataIn _ | .addressWait _ => False

/-- The invariant of the reachable states. -/
structure State.Inv (s : State) : Prop where
  /-- `RPT_LEN` is legal (00_scope.md R6) -/
  rptLen : 1 ≤ s.params.rptLen ∧ s.params.rptLen ≤ 255
  /-- the ROM is loaded, in canonical form -/
  rom : s.RomLoaded
  /-- every endpoint's queues fit its banks (10_state.md R32, R39 (a)) -/
  queues : ∀ i, (s.ep i).QueuesFit
  /-- endpoint 0, once enabled, has its default configuration (10_state.md R33) -/
  ep0 : (s.ep .e0).en = true → s.Ep0Default
  /-- the SETUP source is enabled together with endpoint 0 (40_frame_and_reset.md R90) -/
  setupIe : s.setupIe = (s.ep .e0).en
  /-- only the keyboard slot is ever enabled, as the table configures it (10_state.md R36) -/
  app : ∀ a, (s.ep (appNum a)).en = true → a = s.params.kbdEp ∧ (s.ep (appNum a)).type = .interrupt ∧
    (s.ep (appNum a)).dir = .in ∧ (s.ep (appNum a)).size = .b8 ∧ (s.ep (appNum a)).banks = s.params.kbdBanks
  /-- configured with no reset waiting, the keyboard endpoint is enabled (10_state.md R39 (c)) -/
  kbd : s.resetPending = false → s.currentConfiguration ≠ 0 → (s.ep s.kbd).en = true
  /-- a latched packet not yet decoded leaves the dispatcher idle or restarted (41_dispatcher.md R103, R105) -/
  latched : s.setupPending = true → s.ctl = .idle ∨ s.ctl = .setupReceived
  /-- a SETUP is taken only by an enabled, unhalted endpoint 0 (45_endpoint_engine.md R157) -/
  active : s.setupPending = true ∨ s.ctl ≠ .idle → (s.ep .e0).en = true ∧ (s.ep .e0).halt = false
  /-- nothing is armed on endpoint 0 from a SETUP until the dispatcher arms it (41_dispatcher.md R107) -/
  fresh : s.setupPending = true ∨ s.ctl.bankUntouched → (s.ep .e0).txq = []
  /-- `idle_count` stays below `idle_config` (40_frame_and_reset.md R92) -/
  idle : s.idleCount = 0 ∨ s.idleCount.toNat < s.idleConfig.toNat

end Sys2Proof.Machine
end

