-- ==== Sys2Proof/Certificates/Slice0/Obligations.lean ====
section
/-! DEFINITION. The statements for the provers. Each docstring names the rules of spec/ it rests on. -/

open Sys2Proof Sys2Proof.Machine

/-! ### Encoding -/

/-- Every well-formed instruction is what its own packet decodes to (30_encoding.md R78, R84). The fields a row
ignores have the encoder's values, the model's choice (log entry 11). -/
def Obligations.DecodeEncodeRoundTrip : Prop :=
  ∀ i : Instr, i.wellFormed = true → decode (encode i) = i

/-- Every packet decodes to a well-formed instruction (30_encoding.md R78 "`Decode` is total"). -/
def Obligations.DecodedInstructionsAreWellFormed : Prop :=
  ∀ p : SetupPacket, (decode p).wellFormed = true

/-- The opcode table read by mask, match and most mask bits gives the row `Decode` gives, and no two
matching rows tie: the spec's own inference (30_encoding.md R83, "derived: checked over the table",
"derived: from rule R78"). -/
def Obligations.OpcodeTableSelectsDecodedRow : Prop :=
  ∀ p : SetupPacket,
    (decode p).row.selects p ∧
    (∀ r : Row, r.selects p → r ≠ (decode p).row → r.weight < (decode p).row.weight) ∧
    (∀ r r' : Row, r.selects p → r'.selects p → r ≠ r' → r.weight ≠ r'.weight)

/-- Two packets that agree on the fields a row names are the same instruction (30_encoding.md R80). -/
def Obligations.FieldsNoRowNamesAreIgnored : Prop :=
  ∀ p q : SetupPacket, q.rq = p.rq →
    (p.rq = 0x06#8 → (lookup p.val p.idx).isSome = true → q.val = p.val → q.idx = p.idx → q.len = p.len →
      decode q = decode p) ∧
    (p.rq = 0x05#8 → q.val.extractLsb' 0 7 = p.val.extractLsb' 0 7 → decode q = decode p) ∧
    (p.rq = 0x09#8 → p.rt = 0x00#8 → q.rt = 0x00#8 → q.val.extractLsb' 0 8 = p.val.extractLsb' 0 8 →
      decode q = decode p) ∧
    (p.rq = 0x08#8 → p.rt = 0x80#8 → q.rt = 0x80#8 → decode q = decode p) ∧
    (p.rq = 0x00#8 → p.rt = 0x82#8 → q.rt = 0x82#8 → q.idx.extractLsb' 0 7 = p.idx.extractLsb' 0 7 →
      decode q = decode p) ∧
    (p.rq = 0x00#8 → p.rt ≠ 0x82#8 → q.rt ≠ 0x82#8 → decode q = decode p) ∧
    (p.rq = 0x01#8 ∨ p.rq = 0x03#8 → p.rt = 0x02#8 → q.rt = 0x02#8 → p.val = 0#16 → q.val = 0#16 →
      1 ≤ (p.idx.extractLsb' 0 7).toNat → (p.idx.extractLsb' 0 7).toNat ≤ 4 →
      q.idx.extractLsb' 0 7 = p.idx.extractLsb' 0 7 → decode q = decode p) ∧
    (p.rq = 0x01#8 ∨ p.rq = 0x02#8 ∨ p.rq = 0x03#8 → p.rt = 0xA1#8 → q.rt = 0xA1#8 → p.idx = 0#16 → q.idx = 0#16 →
      decode q = decode p) ∧
    (p.rq = 0x09#8 → p.rt = 0x21#8 → q.rt = 0x21#8 → p.idx = 0#16 → q.idx = 0#16 → decode q = decode p) ∧
    (p.rq = 0x0A#8 → p.rt = 0x21#8 → q.rt = 0x21#8 → p.idx = 0#16 → q.idx = 0#16 →
      q.val.extractLsb' 8 8 = p.val.extractLsb' 8 8 → decode q = decode p) ∧
    (p.rq = 0x0B#8 → p.rt = 0x21#8 → q.rt = 0x21#8 → p.idx = 0#16 → q.idx = 0#16 →
      q.val.extractLsb' 0 8 = p.val.extractLsb' 0 8 → decode q = decode p)

/-- The decoder stalls exactly the packets no request row claims, with the cause of the table of
60_exceptions.md R181. -/
def Obligations.StallsAreTheUnclaimedPackets : Prop :=
  ∀ (p : SetupPacket) (c : StallCause),
    (decode p = .stall c p ↔ stallCauseOf p = some c) ∧ ∀ q, decode p = .stall c q → q = p

/-- The 16-bit fields are little-endian (20_memory.md R50). The clauses on the word `P` and on how a row
matches are the spec's own inference (30_encoding.md R71, "derived: from rule R70"). -/
def Obligations.SetupFieldsAreLittleEndian : Prop :=
  ∀ p : SetupPacket,
    p.val = p.b2.setWidth 16 ||| p.b3.setWidth 16 <<< 8 ∧
    p.idx = p.b4.setWidth 16 ||| p.b5.setWidth 16 <<< 8 ∧
    p.len = p.b6.setWidth 16 ||| p.b7.setWidth 16 <<< 8 ∧
    p.word.toNat = p.b0.toNat + 2 ^ 8 * p.b1.toNat + 2 ^ 16 * p.b2.toNat + 2 ^ 24 * p.b3.toNat + 2 ^ 32 * p.b4.toNat +
      2 ^ 40 * p.b5.toNat + 2 ^ 48 * p.b6.toNat + 2 ^ 56 * p.b7.toNat ∧
    p.word.extractLsb' 0 8 = p.rt ∧ p.word.extractLsb' 8 8 = p.rq ∧ p.word.extractLsb' 16 16 = p.val ∧
    p.word.extractLsb' 32 16 = p.idx ∧ p.word.extractLsb' 48 16 = p.len ∧
    ∀ r : Row, r.selects p ↔ p.word &&& r.mask = r.pattern

/-- GET_DESCRIPTOR outside the four selectors stalls with DescriptorNotFound (42_standard_requests.md R117);
the selectors and their tables are those of 43_descriptor_engine.md R130. -/
def Obligations.UnknownDescriptorStalls : Prop :=
  ∀ (p : SetupPacket) (s : State), p.rq = 0x06#8 →
    ¬(p.val = 0x0100#16 ∧ p.idx = 0#16) → ¬(p.val = 0x0200#16 ∧ p.idx = 0#16) →
    ¬(p.val = 0x2200#16 ∧ p.idx = 0#16) → ¬(p.val = 0x2100#16 ∧ p.idx = 0#16) →
    exec (decode p) s = .next { s with
      eps := { s.eps with ep0 := { s.eps.ep0 with halt := true } }
      lastStall := some .descriptorNotFound
      ctl := .idle }

/-- SET_FEATURE and CLEAR_FEATURE with a bad selector or endpoint stall as BadFeatureTarget, those with
another `rt` (a HID GET to the keyboard interface aside) as Unsupported (42_standard_requests.md R124). -/
def Obligations.BadFeatureTargetStalls : Prop :=
  ∀ (p : SetupPacket) (s : State), p.rq = 0x01#8 ∨ p.rq = 0x03#8 →
    (p.rt = 0x02#8 → (p.val ≠ 0#16 ∨ (p.idx.extractLsb' 0 7).toNat = 0 ∨ 4 < (p.idx.extractLsb' 0 7).toNat) →
      exec (decode p) s = .next { s with
        eps := { s.eps with ep0 := { s.eps.ep0 with halt := true } }
        lastStall := some .badFeatureTarget
        ctl := .idle }) ∧
    (p.rt ≠ 0x02#8 → ¬(p.rt = 0xA1#8 ∧ p.idx = 0#16) →
      exec (decode p) s = .next { s with
        eps := { s.eps with ep0 := { s.eps.ep0 with halt := true } }
        lastStall := some .unsupported
        ctl := .idle })

/-- Packets written from the spec's encodings decode to the instruction they stand for (30_encoding.md R70, R78).
All but the SET_IDLE packet are vectors of 95_test_vectors.md section 2. -/
def Obligations.WrittenPacketsDecode : Prop :=
  decode ⟨0x81, 0x06, 0x00, 0x22, 0x00, 0x00, 0xFF, 0x00⟩ = .getDescriptorReport 255 ∧
  decode ⟨0x00, 0x05, 0x85, 0x00, 0x00, 0x00, 0x00, 0x00⟩ = .setAddress 5 ∧
  decode ⟨0x82, 0x00, 0x00, 0x00, 0x83, 0x00, 0x02, 0x00⟩ = .getStatusEndpoint 3 ∧
  decode ⟨0x02, 0x03, 0x00, 0x00, 0x03, 0x01, 0x00, 0x00⟩ = .setFeatureHaltEp3 ∧
  decode ⟨0x02, 0x01, 0x00, 0x00, 0x84, 0x00, 0x00, 0x00⟩ = .clearFeatureHaltEp4 ∧
  decode ⟨0x21, 0x0A, 0xFF, 0x7D, 0x00, 0x00, 0x00, 0x00⟩ = .hidSetIdle 0x7D ∧
  decode ⟨0x00, 0x09, 0x01, 0x01, 0x00, 0x00, 0x00, 0x00⟩ = .setConfiguration 1 ∧
  decode ⟨0xA1, 0x03, 0x00, 0x00, 0x00, 0x01, 0x01, 0x00⟩ = .stall .unsupported ⟨0xA1, 0x03, 0x00, 0x00, 0x00, 0x01, 0x01, 0x00⟩

/-! ### Who steps -/

/-- The block's turn runs the decoded packet: from `SetupReceived` always, from `Idle` when a SETUP is
pending and its source enabled and no frame event waits (41_dispatcher.md R101, R103). Around `exec`
the step takes the move off `env` and clears `setup_pending`. That `SetupReceived` decodes with `setup_pending` 0 too
is R101's "always" over 10_state.md R31, the model's choice (log entry 21). -/
def Obligations.StepRunsDecodedSetup : Prop :=
  ∀ s : State, s.nextMove = .block →
    (s.ctl = .setupReceived ∨
      (s.ctl = .idle ∧ s.setupPending = true ∧ s.eps.ep0.en = true ∧ s.setupIe = true ∧ s.resetPending = false ∧
        s.sofPending = false)) →
    step s = exec (decode s.setupBuf) { s with env := s.env.tail, setupPending := false }

/-- With its condition unmet the dispatcher keeps its control state and does nothing, and so does an
idle block with no event for it (00_scope.md R11, 41_dispatcher.md R101, 45_endpoint_engine.md R158, R160). That
such a turn is a step that changes nothing but `env` is the model's choice (log entry 2). -/
def Obligations.UnmetWaitHolds : Prop :=
  ∀ s : State, s.nextMove = .block →
    (((∃ rest, s.ctl = .dataIn rest) ∨ s.ctl = .statusIn ∨ (∃ a, s.ctl = .statusInAddr a) ∨ ∃ a, s.ctl = .addressWait a) ∧
        (s.eps.ep0.en = false ∨ banksCount s.eps.ep0.banks ≤ s.eps.ep0.txq.length)) ∨
      (s.ctl = .dataOut ∧ (s.eps.ep0.en = false ∨ s.eps.ep0.rxq = [])) ∨
      (s.ctl = .idle ∧ s.resetPending = false ∧ s.sofPending = false ∧
        (s.setupPending = false ∨ s.eps.ep0.en = false ∨ s.setupIe = false)) →
    step s = .next { s with env := s.env.tail }

/-- With a frame event and a SETUP both waiting the frame handler steps first: both frame events are
consumed, the SETUP stays pending (60_exceptions.md R178, 40_frame_and_reset.md R89). -/
def Obligations.FrameHandlerStepsFirst : Prop :=
  ∀ s : State, s.nextMove = .block → s.ctl = .idle → s.resetPending = true ∨ s.sofPending = true →
    ∃ t, step s = .next t ∧ t.resetPending = false ∧ t.sofPending = false ∧ t.ctl = .idle ∧
      t.setupPending = s.setupPending ∧ t.setupBuf = s.setupBuf

/-- Playing moves one after another is stepping a state whose `env` begins with them
(00_scope.md R7, 20_memory.md R62); `env` is the model's form of the interleaving (log entry 2). -/
def Obligations.PlayedMovesAreSteps : Prop :=
  ∀ (ms : List Move) (s t : State) (as : List Answer), play ms s = some (as, t) →
    Host.Core.run core ms.length ({ s with env := ms ++ s.env } : State) = .next t

/-! ### The decode-step work of each instruction -/

/-- GET_DESCRIPTOR captures the first `min(len, dlen)` bytes of its table from the ROM
(42_standard_requests.md R116, 43_descriptor_engine.md R130, R136). Where the ROM does not hold them all
the read is the model fault the spec infers no rule reaches (20_memory.md R54, log entries 7 and 13). -/
def Obligations.DescriptorRequestsReadTheRom : Prop :=
  ∀ (len : U16) (s : State) (i : Instr) (base dlen : Nat),
    (i = .getDescriptorDevice len ∧ base = 0x00 ∧ dlen = 18) ∨
      (i = .getDescriptorConfiguration len ∧ base = 0x12 ∧ dlen = 34) ∨
      (i = .getDescriptorHid len ∧ base = 0x24 ∧ dlen = 9) ∨
      (i = .getDescriptorReport len ∧ base = 0x34 ∧ dlen = s.params.rptLen) →
    ((∀ a, a < 52 + s.params.rptLen → (readCell s.rom a).isSome = true) →
      ∃ bs : List Byte, exec i s = .next { s with ctl := .dataIn bs } ∧ bs.length = min len.toNat dlen ∧
        ∀ k, k < min len.toNat dlen → readCell s.rom (base + k) = bs[k]?) ∧
    (∀ k, k < min len.toNat dlen → readCell s.rom (base + k) = none → exec i s = .fault .romOutOfRange)

/-- SET_ADDRESS only starts its status stage in the decode step (42_standard_requests.md R118). -/
def Obligations.SetAddressStartsItsStatusStage : Prop :=
  ∀ (a : U7) (s : State), exec (.setAddress a) s = .next { s with ctl := .statusInAddr a }

/-- SET_CONFIGURATION stores its value whatever it is, resets every slot and enables the keyboard slot
as the Endpoint Configuration Table says; endpoint 0, the configuration fields of the other slots and all
else stay (42_standard_requests.md R120, 10_state.md R36). -/
def Obligations.SetConfigurationRebuildsTheSlots : Prop :=
  ∀ (v : Byte) (s : State), ∃ t, exec (.setConfiguration v) s = .next t ∧
    t = { s with currentConfiguration := v, eps := t.eps, ctl := .statusIn } ∧
    t.ep .e0 = s.ep .e0 ∧
    ∀ a : AppEp,
      (t.ep (appNum a)).halt = false ∧ (t.ep (appNum a)).toggle = .data0 ∧ (t.ep (appNum a)).txq = [] ∧
      (t.ep (appNum a)).rxq = [] ∧
      (a = s.params.kbdEp →
        (t.ep (appNum a)).en = true ∧ (t.ep (appNum a)).type = .interrupt ∧ (t.ep (appNum a)).dir = .in ∧
          (t.ep (appNum a)).size = .b8 ∧ (t.ep (appNum a)).banks = s.params.kbdBanks) ∧
      (a ≠ s.params.kbdEp →
        (t.ep (appNum a)).en = false ∧ (t.ep (appNum a)).type = (s.ep (appNum a)).type ∧
          (t.ep (appNum a)).dir = (s.ep (appNum a)).dir ∧ (t.ep (appNum a)).size = (s.ep (appNum a)).size ∧
          (t.ep (appNum a)).banks = (s.ep (appNum a)).banks)

/-- The one-packet GET requests capture their answer and change nothing but `ctl`
(42_standard_requests.md R119, R121, 44_hid_requests.md R145, R147, R149). -/
def Obligations.OnePacketRequestsCaptureTheirAnswer : Prop :=
  ∀ s : State,
    exec .getConfiguration s = .next { s with ctl := .dataIn [s.currentConfiguration] } ∧
    exec .getStatus s = .next { s with ctl := .dataIn [0x00, 0x00] } ∧
    exec .hidGetReport s = .next { s with ctl := .dataIn [s.keys.modifier, 0x00, s.keys.key0, s.keys.key1, s.keys.key2,
      s.keys.key3, s.keys.key4, s.keys.key5] } ∧
    exec .hidGetIdle s = .next { s with ctl := .dataIn [s.idleConfig] } ∧
    exec .hidGetProtocol s = .next { s with ctl := .dataIn [s.protocol] }

/-- GET_STATUS on an endpoint reports its halt bit, enabled or not, and 0 for a number above 4
(42_standard_requests.md R119). -/
def Obligations.EndpointStatusReportsHalt : Prop :=
  ∀ (e : U7) (s : State), ∃ h : Byte, exec (.getStatusEndpoint e) s = .next { s with ctl := .dataIn [h, 0x00] } ∧
    (e.toNat = 0 → h = if s.eps.ep0.halt then 1 else 0) ∧
    (e.toNat = 1 → h = if s.eps.ep1.halt then 1 else 0) ∧
    (e.toNat = 2 → h = if s.eps.ep2.halt then 1 else 0) ∧
    (e.toNat = 3 → h = if s.eps.ep3.halt then 1 else 0) ∧
    (e.toNat = 4 → h = if s.eps.ep4.halt then 1 else 0) ∧
    (5 ≤ e.toNat → h = 0)

/-- SET_FEATURE(ENDPOINT_HALT) sets the slot's halt bit, enabled or not, and nothing else;
CLEAR_FEATURE(ENDPOINT_HALT) clears it and resets the toggle, keeping the armed banks
(42_standard_requests.md R122, R123). -/
def Obligations.HaltFeaturesWriteTheirSlot : Prop :=
  ∀ s : State,
    exec .setFeatureHaltEp1 s = .next { s with eps := { s.eps with ep1 := { s.eps.ep1 with halt := true } }, ctl := .statusIn } ∧
    exec .setFeatureHaltEp2 s = .next { s with eps := { s.eps with ep2 := { s.eps.ep2 with halt := true } }, ctl := .statusIn } ∧
    exec .setFeatureHaltEp3 s = .next { s with eps := { s.eps with ep3 := { s.eps.ep3 with halt := true } }, ctl := .statusIn } ∧
    exec .setFeatureHaltEp4 s = .next { s with eps := { s.eps with ep4 := { s.eps.ep4 with halt := true } }, ctl := .statusIn } ∧
    exec .clearFeatureHaltEp1 s = .next { s with
      eps := { s.eps with ep1 := { s.eps.ep1 with halt := false, toggle := .data0 } }, ctl := .statusIn } ∧
    exec .clearFeatureHaltEp2 s = .next { s with
      eps := { s.eps with ep2 := { s.eps.ep2 with halt := false, toggle := .data0 } }, ctl := .statusIn } ∧
    exec .clearFeatureHaltEp3 s = .next { s with
      eps := { s.eps with ep3 := { s.eps.ep3 with halt := false, toggle := .data0 } }, ctl := .statusIn } ∧
    exec .clearFeatureHaltEp4 s = .next { s with
      eps := { s.eps with ep4 := { s.eps.ep4 with halt := false, toggle := .data0 } }, ctl := .statusIn }

/-- The HID SET requests: SET_IDLE and SET_PROTOCOL write their register in the decode step, SET_REPORT
waits for its data packet (44_hid_requests.md R151, R152, R153). -/
def Obligations.HidSetRequestsWriteTheirRegister : Prop :=
  ∀ (b : Byte) (s : State),
    exec (.hidSetIdle b) s = .next { s with idleConfig := b, idleCount := 0, ctl := .statusIn } ∧
    exec (.hidSetProtocol b) s = .next { s with protocol := b, ctl := .statusIn } ∧
    exec .hidSetReport s = .next { s with ctl := .dataOut }

/-- A stall halts endpoint 0, records its cause and returns to `Idle`; no device-state register, no
other endpoint and not the address changes (41_dispatcher.md R106, 60_exceptions.md R183). -/
def Obligations.StallMutatesNoDeviceState : Prop :=
  ∀ (c : StallCause) (p : SetupPacket) (s : State),
    exec (.stall c p) s = .next { s with
      eps := { s.eps with ep0 := { s.eps.ep0 with halt := true } }
      lastStall := some c
      ctl := .idle }

/-- The frame of every instruction: which state its decode-step work leaves as it was
(41_dispatcher.md R104). -/
def Obligations.InstructionsKeepTheirFrame : Prop :=
  ∀ (i : Instr) (s t : State), exec i s = .next t →
    ((∀ v, i ≠ .setConfiguration v) → t.currentConfiguration = s.currentConfiguration) ∧
    ((∀ r, i ≠ .hidSetIdle r) → t.idleConfig = s.idleConfig ∧ t.idleCount = s.idleCount) ∧
    ((∀ p, i ≠ .hidSetProtocol p) → t.protocol = s.protocol) ∧
    ((∀ c p, i ≠ .stall c p) → t.lastStall = s.lastStall ∧ t.ep .e0 = s.ep .e0) ∧
    t.ep .e0 = { s.ep .e0 with halt := (t.ep .e0).halt } ∧
    ((∀ v, i ≠ .setConfiguration v) → ∀ a : AppEp,
      t.ep (appNum a) = { s.ep (appNum a) with halt := (t.ep (appNum a)).halt, toggle := (t.ep (appNum a)).toggle } ∧
      (i ≠ setHaltInstr a → i ≠ clearHaltInstr a → t.ep (appNum a) = s.ep (appNum a)) ∧
      (i ≠ clearHaltInstr a → (t.ep (appNum a)).toggle = (s.ep (appNum a)).toggle)) ∧
    t.keys = s.keys ∧ t.leds = s.leds ∧ t.fq = s.fq ∧ t.address = s.address ∧ t.resetPending = s.resetPending ∧
    t.sofPending = s.sofPending ∧ t.setupPending = s.setupPending ∧ t.setupBuf = s.setupBuf ∧ t.setupIe = s.setupIe ∧
    t.params = s.params ∧ t.env = s.env ∧ t.answer = s.answer ∧ t.draws = s.draws ∧
    ∀ a, readCell t.rom a = readCell s.rom a

/-! ### The dispatcher after its decode step -/

/-- `StatusIn` arms the zero-length status packet and returns to `Idle` (41_dispatcher.md R107). -/
def Obligations.StatusStageArmsAnEmptyPacket : Prop :=
  ∀ s : State, s.nextMove = .block → s.ctl = .statusIn → s.eps.ep0.en = true →
    s.eps.ep0.txq.length < banksCount s.eps.ep0.banks →
    step s = .next { s with
      env := s.env.tail
      eps := { s.eps with ep0 := { s.eps.ep0 with txq := s.eps.ep0.txq ++ [[]] } }
      ctl := .idle }

/-- The two later steps of SET_ADDRESS: the status packet is armed at the old address, and the new
address is written once that packet was taken (42_standard_requests.md R118, 70_reset_and_hazards.md R201). -/
def Obligations.AddressIsWrittenAfterItsStatusPacket : Prop :=
  ∀ (a : U7) (s : State), s.nextMove = .block → s.eps.ep0.en = true →
    s.eps.ep0.txq.length < banksCount s.eps.ep0.banks →
    (s.ctl = .statusInAddr a → step s = .next { s with
      env := s.env.tail
      eps := { s.eps with ep0 := { s.eps.ep0 with txq := s.eps.ep0.txq ++ [[]] } }
      ctl := .addressWait a }) ∧
    (s.ctl = .addressWait a → step s = .next { s with env := s.env.tail, address := a, ctl := .idle })

/-- The chunk step arms at most `M` bytes and keeps the others (43_descriptor_engine.md R138). -/
def Obligations.ChunkStepArmsAtMostOnePacket : Prop :=
  ∀ (rest : List Byte) (s : State) (m : Nat), s.nextMove = .block → s.ctl = .dataIn rest → s.eps.ep0.en = true →
    s.eps.ep0.txq.length < banksCount s.eps.ep0.banks →
    m = (match s.params.ep0Size with | .b32 => 32 | .b64 => 64) → min rest.length m ≤ s.eps.ep0.size.bytes →
    step s = .next { s with
      env := s.env.tail
      eps := { s.eps with ep0 := { s.eps.ep0 with txq := s.eps.ep0.txq ++ [rest.take m] } }
      ctl := if rest.length ≤ m then .idle else .dataIn (rest.drop m) }

/-- SET_REPORT stores the first byte of its data packet in `leds`, unmasked, and releases the packet; an
empty packet gives a free byte, whatever it is (44_hid_requests.md R151, 45_endpoint_engine.md R161, R162;
log entry 4). -/
def Obligations.SetReportStoresTheFirstByte : Prop :=
  ∀ (s : State) (xs : List Byte) (rest : List (List Byte)), s.nextMove = .block → s.ctl = .dataOut →
    s.eps.ep0.en = true → s.eps.ep0.rxq = xs :: rest →
    (∀ b bs, xs = b :: bs → step s = .next { s with
      env := s.env.tail
      leds := b
      eps := { s.eps with ep0 := { s.eps.ep0 with rxq := rest } }
      ctl := .statusIn }) ∧
    (xs = [] → step s = .next { s with
      env := s.env.tail
      leds := Config.freeByte s.draws
      draws := s.draws + 1
      eps := { s.eps with ep0 := { s.eps.ep0 with rxq := rest } }
      ctl := .statusIn })

/-- The packets the host collects of a data stage: `max(1, ⌈L/M⌉)` of them, the `j`-th the bytes from
`j·M` on, none longer than `M`, PIDs alternating, and the dispatcher idle at the end. It is what the spec
infers from its chunk step (43_descriptor_engine.md R141, "derived: from rules R138 to R140"). -/
def Obligations.DataStageSendsItsBytesInPackets : Prop :=
  ∀ (s : State) (rest : List Byte) (m n : Nat), s.ctl = .dataIn rest → s.Ep0Default → s.eps.ep0.halt = false →
    s.eps.ep0.txq = [] → m = s.eps.ep0.size.bytes → n = max 1 ((rest.length + m - 1) / m) →
    ∃ (as : List Answer) (t : State) (packets : List (List Byte)),
      play (rounds n [.block, .hostIn s.address 0]) s = some (as, t) ∧ t.ctl = .idle ∧ t.eps.ep0.txq = [] ∧
      packets.length = n ∧ packets.flatten = rest ∧
      (∀ (j : Nat) (xs : List Byte), packets[j]? = some xs →
        xs = (rest.drop (j * m)).take m ∧ (j + 1 < n → xs.length = m) ∧ xs.length ≤ m ∧
          as[j]? = some (.data (s.eps.ep0.toggle.after j) xs)) ∧
      as.length = n

/-! ### The frame handler -/

/-- Bus-reset work: endpoint 0 gets its default configuration, the SETUP source is enabled, the
configuration is cleared, and a SOF waiting with it does nothing (40_frame_and_reset.md R89, R90). -/
def Obligations.BusResetWorkRestoresEndpointZero : Prop :=
  ∀ s : State, s.nextMove = .block → s.ctl = .idle → s.resetPending = true →
    step s = .next { s with
      env := s.env.tail
      resetPending := false
      sofPending := false
      currentConfiguration := 0
      setupIe := true
      eps := { s.eps with ep0 := { s.eps.ep0 with
        en := true, type := .control, dir := .both, size := ep0SizeOf s.params.ep0Size, banks := .one, halt := false
        txq := [], rxq := [] } } }

/-- SOF work short of an idle tick: nothing while unconfigured, else the frame-quarter counter moves
(40_frame_and_reset.md R91). -/
def Obligations.StartOfFrameCountsQuarters : Prop :=
  ∀ s : State, s.nextMove = .block → s.ctl = .idle → s.resetPending = false → s.sofPending = true →
    (s.currentConfiguration = 0 → step s = .next { s with env := s.env.tail, sofPending := false }) ∧
    (s.currentConfiguration ≠ 0 → s.fq ≠ 3 →
      step s = .next { s with env := s.env.tail, sofPending := false, fq := s.fq + 1 })

/-- The idle tick on the fourth SOF invocation: skipped with `idle_config` 0 or the keyboard endpoint not
writable, else counted, and at the match one report is armed, halted or not
(40_frame_and_reset.md R92, R93, R94). -/
def Obligations.IdleTickCountsAndReports : Prop :=
  ∀ s : State, s.nextMove = .block → s.ctl = .idle → s.resetPending = false → s.sofPending = true →
    s.currentConfiguration ≠ 0 → s.fq = 3 →
    let k := s.ep (appNum s.params.kbdEp)
    (s.idleConfig = 0 ∨ k.en = false ∨ banksCount k.banks ≤ k.txq.length →
      step s = .next { s with env := s.env.tail, sofPending := false, fq := 0 }) ∧
    (s.idleConfig ≠ 0 → k.en = true → k.txq.length < banksCount k.banks →
      (s.idleCount + 1 ≠ s.idleConfig →
        step s = .next { s with env := s.env.tail, sofPending := false, fq := 0, idleCount := s.idleCount + 1 }) ∧
      (s.idleCount + 1 = s.idleConfig →
        ∃ t, step s = .next t ∧
          t = { s with env := s.env.tail, sofPending := false, fq := 0, idleCount := 0, eps := t.eps } ∧
          t.ep (appNum s.params.kbdEp) = { k with txq := k.txq ++ [[s.keys.modifier, 0x00, s.keys.key0, s.keys.key1,
            s.keys.key2, s.keys.key3, s.keys.key4, s.keys.key5]] } ∧
          ∀ i, i ≠ appNum s.params.kbdEp → t.ep i = s.ep i))

/-- Report period: a host that takes every report sees one on exactly the SOF invocations `n` with
`4k ∣ n + fq`, so every `4k`-th, the first between `4(k-1)+1` and `4k`. It is what the spec infers from its
tick (40_frame_and_reset.md R95, "derived: from rules R91 to R93"). -/
def Obligations.ReportEveryFourKInvocations : Prop :=
  ∀ (s : State) (k n : Nat), s.ctl = .idle → s.resetPending = false → s.currentConfiguration ≠ 0 →
    s.idleConfig.toNat = k → 1 ≤ k → s.idleCount = 0 →
    (s.ep s.kbd).en = true → (s.ep s.kbd).halt = false → (s.ep s.kbd).txq = [] →
    ∃ (as : List Answer) (t : State),
      play (rounds n [.hostSof, .block, .hostIn s.address (tokenOf s.params.kbdEp)]) s = some (as, t) ∧
      ∀ j, j < n → as[2 * j + 1]? = some (
        if (j + 1 + s.fq.toNat) % (4 * k) = 0 then
          .data ((s.ep s.kbd).toggle.after ((j + 1 + s.fq.toNat) / (4 * k) - 1))
            [s.keys.modifier, 0x00, s.keys.key0, s.keys.key1, s.keys.key2, s.keys.key3, s.keys.key4, s.keys.key5]
        else .nak)

/-! ### The environment's moves -/

/-- A token whose address is not the block's, whose endpoint number is above 4 or whose endpoint is
disabled changes no state and gets no answer (45_endpoint_engine.md R156). -/
def Obligations.UnacceptedTokensChangeNothing : Prop :=
  ∀ (s : State) (addr : U7) (e : BitVec 4) (bs : List Byte),
    addr ≠ s.address ∨ 4 < e.toNat ∨ (e.toNat = 0 ∧ s.eps.ep0.en = false) ∨ (e.toNat = 1 ∧ s.eps.ep1.en = false) ∨
      (e.toNat = 2 ∧ s.eps.ep2.en = false) ∨ (e.toNat = 3 ∧ s.eps.ep3.en = false) ∨
      (e.toNat = 4 ∧ s.eps.ep4.en = false) →
    (s.nextMove = .hostSetup addr e bs ∨ s.nextMove = .hostIn addr e ∨ s.nextMove = .hostOut addr e bs) →
    step s = .next { s with env := s.env.tail, answer := .silent }

/-- An accepted SETUP on endpoint 0 is latched whatever the halt bit and the banks, and restarts an
active dispatcher; on another endpoint it is ignored (45_endpoint_engine.md R157, 41_dispatcher.md R105).
Of a SETUP of another length than 8 the spec says nothing: that endpoint 0 has no step for it (log entry 9), and
that another endpoint ignores it as one of 8 bytes (log entry 20), are the model's choices. -/
def Obligations.SetupIsLatchedAndRestarts : Prop :=
  ∀ (s : State) (p : SetupPacket) (bs : List Byte) (e : BitVec 4),
    (s.nextMove = .hostSetup s.address 0 [p.b0, p.b1, p.b2, p.b3, p.b4, p.b5, p.b6, p.b7] → s.eps.ep0.en = true →
      step s = .next { s with
        env := s.env.tail
        answer := .ack
        setupBuf := p
        setupPending := true
        eps := { s.eps with ep0 := { s.eps.ep0 with halt := false, txq := [], rxq := [], toggle := .data1 } }
        ctl := if s.ctl = .idle then .idle else .setupReceived }) ∧
    (s.nextMove = .hostSetup s.address e bs → e ≠ 0 → step s = .next { s with env := s.env.tail, answer := .silent }) ∧
    (s.nextMove = .hostSetup s.address 0 bs → s.eps.ep0.en = true → bs.length ≠ 8 →
      step s = .refused .setupNotEightBytes)

/-- An accepted IN: STALL from a halted endpoint, NAK with nothing armed, else the oldest armed packet
with the toggle's PID, which flips (45_endpoint_engine.md R163). -/
def Obligations.InTakesTheOldestPacket : Prop :=
  ∀ (s : State) (e : BitVec 4) (i : EpNum), s.nextMove = .hostIn s.address e → epOfToken e = some i →
    (s.ep i).en = true →
    ((s.ep i).halt = true → step s = .next { s with env := s.env.tail, answer := .stall }) ∧
    ((s.ep i).halt = false → (s.ep i).txq = [] → step s = .next { s with env := s.env.tail, answer := .nak }) ∧
    (∀ xs rest, (s.ep i).halt = false → (s.ep i).txq = xs :: rest →
      ∃ t, step s = .next t ∧
        t = { s with env := s.env.tail, answer := .data (s.ep i).toggle xs, eps := t.eps } ∧
        t.ep i = { s.ep i with txq := rest, toggle := (s.ep i).toggle.flip } ∧ ∀ j, j ≠ i → t.ep j = s.ep j)

/-- An accepted OUT of a packet that fits: nothing from an IN endpoint, STALL from a halted one, NAK with
no free bank, else the packet is held (45_endpoint_engine.md R164). That a longer packet has no step is the
model's choice (log entry 9). -/
def Obligations.OutIsHeldOrAnswered : Prop :=
  ∀ (s : State) (e : BitVec 4) (xs : List Byte) (i : EpNum), s.nextMove = .hostOut s.address e xs →
    epOfToken e = some i → (s.ep i).en = true →
    ((s.ep i).size.bytes < xs.length → step s = .refused .oversizeOut) ∧
    (xs.length ≤ (s.ep i).size.bytes →
      ((s.ep i).dir = .in → step s = .next { s with env := s.env.tail, answer := .silent }) ∧
      ((s.ep i).dir = .both → (s.ep i).halt = true → step s = .next { s with env := s.env.tail, answer := .stall }) ∧
      ((s.ep i).dir = .both → (s.ep i).halt = false → (s.ep i).rxq.length = banksCount (s.ep i).banks →
        step s = .next { s with env := s.env.tail, answer := .nak }) ∧
      ((s.ep i).dir = .both → (s.ep i).halt = false → (s.ep i).rxq.length ≠ banksCount (s.ep i).banks →
        ∃ t, step s = .next t ∧ t = { s with env := s.env.tail, answer := .ack, eps := t.eps } ∧
          t.ep i = { s.ep i with rxq := (s.ep i).rxq ++ [xs] } ∧ ∀ j, j ≠ i → t.ep j = s.ep j))

/-- Token numbers 0 to 4 name the five endpoints, no other number names one (45_endpoint_engine.md R156),
and `tokenOf` numbers the slots so. -/
def Obligations.TokenNumbersNameEndpoints : Prop :=
  (∀ (e : BitVec 4) (i : EpNum), epOfToken e = some i ↔
    (e.toNat = 0 ∧ i = .e0) ∨ (e.toNat = 1 ∧ i = .e1) ∨ (e.toNat = 2 ∧ i = .e2) ∨ (e.toNat = 3 ∧ i = .e3) ∨
      (e.toNat = 4 ∧ i = .e4)) ∧
  ∀ a : AppEp, epOfToken (tokenOf a) = some (appNum a)

/-- A bus reset at the bus event: address 0, slots disabled and reset, the pending SETUP dropped, the
reset pending, and a waiting dispatcher aborted or held by `RESET_IN_WAIT`; endpoint 0 keeps its
registers (45_endpoint_engine.md R168). -/
def Obligations.BusResetActsAtTheEvent : Prop :=
  ∀ s : State, s.nextMove = .hostReset →
    ∃ t, step s = .next t ∧
      t = { s with
        env := s.env.tail
        answer := .silent
        address := 0
        setupPending := false
        resetPending := true
        eps := t.eps
        ctl := match s.params.resetInWait with | .abort => .idle | .hold => s.ctl } ∧
      t.ep .e0 = s.ep .e0 ∧
      ∀ a : AppEp, t.ep (appNum a) =
        { s.ep (appNum a) with en := false, halt := false, toggle := .data0, txq := [], rxq := [] }

/-- A start of frame sets its pending bit and nothing else, so a second one before the handler runs is
lost (45_endpoint_engine.md R167). -/
def Obligations.StartOfFrameSetsItsPendingBit : Prop :=
  ∀ s : State, s.nextMove = .hostSof → step s = .next { s with env := s.env.tail, answer := .silent, sofPending := true }

/-- The application writes one byte of the key state, where the parameter allows it and the dispatcher is
idle; it reads `leds` at any time (00_scope.md R12). That a write it has no step for is dropped is the model's
choice (log entry 8). -/
def Obligations.ApplicationWritesKeysAndReadsLeds : Prop :=
  ∀ (s : State) (slot : KeySlot) (v : Byte),
    (s.nextMove = .appWrite slot v → s.params.appWritesKeys = true → s.ctl = .idle →
      step s = .next { s with
        env := s.env.tail
        answer := .silent
        keys := match slot with
          | .modifier => { s.keys with modifier := v }
          | .key0 => { s.keys with key0 := v }
          | .key1 => { s.keys with key1 := v }
          | .key2 => { s.keys with key2 := v }
          | .key3 => { s.keys with key3 := v }
          | .key4 => { s.keys with key4 := v }
          | .key5 => { s.keys with key5 := v } }) ∧
    (s.nextMove = .appWrite slot v → s.params.appWritesKeys = false ∨ s.ctl ≠ .idle →
      step s = .next { s with env := s.env.tail, answer := .silent }) ∧
    (s.nextMove = .appReadLeds → step s = .next { s with env := s.env.tail, answer := .leds s.leds })

/-! ### Reset and the invariant -/

/-- Power-on: every piece of state the spec gives a value has it (70_reset_and_hazards.md R195); `IDLE_INIT`
is an open parameter. -/
def Obligations.PowerOnValues : Prop :=
  let s := State.reset
  s.currentConfiguration = 0 ∧ s.keys = ⟨0, 0, 0, 0, 0, 0, 0⟩ ∧ s.idleConfig = Config.idleInit ∧ s.idleCount = 0 ∧
  s.protocol = 1 ∧ s.leds = 0 ∧ s.fq = 0 ∧ s.address = 0 ∧ s.resetPending = false ∧ s.sofPending = false ∧
  s.setupPending = false ∧ s.ctl = .idle ∧ s.setupIe = false ∧ s.lastStall = none ∧
  ∀ i, (s.ep i).en = false ∧ (s.ep i).halt = false ∧ (s.ep i).toggle = .data0 ∧ (s.ep i).txq = [] ∧ (s.ep i).rxq = []

/-- At power-on the ROM holds the device descriptor and the configuration bundle at their places, byte for
byte as the layouts give them, `RPT_LEN` report bytes after them, and nothing else (20_memory.md R56,
43_descriptor_engine.md R131, R132). -/
def Obligations.PowerOnRomHoldsTheTables : Prop :=
  let r := readCell State.reset.rom
  let p := State.reset.params
  let d := Config.desc
  let lo := fun v : U16 => v.extractLsb' 0 8
  let hi := fun v : U16 => v.extractLsb' 8 8
  (List.range 18).map r = ([18, 0x01, lo d.bcdUsb, hi d.bcdUsb, d.devClass, d.devSubClass, d.devProtocol,
    BitVec.ofNat 8 (ep0SizeOf p.ep0Size).bytes, lo d.vid, hi d.vid, lo d.pid, hi d.pid, lo d.bcdDevice, hi d.bcdDevice,
    d.iManufacturer, d.iProduct, d.iSerial, 1] : List Byte).map some ∧
  (List.range 34).map (fun k => r (0x12 + k)) = ([9, 0x02, 34, 0, 1, d.cfgValue, d.iConfiguration, d.cfgAttributes, d.maxPower,
    9, 0x04, 0, 0, 1, 0x03, 0x01, 0x01, d.iInterface,
    9, 0x21, BitVec.ofNat 8 (16 * d.hidVersion.d1.val + d.hidVersion.d0.val),
    BitVec.ofNat 8 (16 * d.hidVersion.d3.val + d.hidVersion.d2.val), d.country, 1, 0x22, BitVec.ofNat 8 p.rptLen, 0,
    7, 0x05, 0x80 + (tokenOf p.kbdEp).setWidth 8, 0x03, 8, 0, d.kbdInterval] : List Byte).map some ∧
  (∀ k, k < p.rptLen → r (0x34 + k) = some (Config.rptByte k)) ∧ ∀ a, 52 + p.rptLen ≤ a → r a = none

/-- The invariant holds at power-on. The model gathers it from rules and from inferences the spec marks as its
own (10_state.md R39, "derived: from rules R90, R120, R168"); the ROM's contents at power-on are log entry 7. -/
def Obligations.ResetMeetsTheInvariant : Prop := State.reset.Inv

/-- Every step keeps the invariant, from every state that meets it. It holds, and strengthens so that a step
keeps it, what the spec infers of its rules (10_state.md R39, "derived: from rules R90, R120, R168";
40_frame_and_reset.md R92 and 41_dispatcher.md R107, their "derived" sentences). -/
def Obligations.StepKeepsTheInvariant : Prop :=
  ∀ s t : State, s.Inv → step s = .next t → t.Inv

/-- No model fault is reached: from a state that meets the invariant the block's turn always completes,
and a step stops only on a host packet the spec assumes is never sent (60_exceptions.md R183,
70_reset_and_hazards.md R202; 20_memory.md R54 and 45_endpoint_engine.md R159 infer it; log entries 9 and 13). -/
def Obligations.NoModelFaultIsReached : Prop :=
  ∀ s : State, s.Inv →
    (s.nextMove = .block → ∃ t, step s = .next t) ∧
    (∀ f, step s ≠ .fault f) ∧
    ∀ r, step s = .refused r →
      (∃ addr e xs, s.nextMove = .hostOut addr e xs ∧ ∃ i, epOfToken e = some i ∧ (s.ep i).size.bytes < xs.length ∧
        r = .oversizeOut) ∨
      (∃ addr bs, s.nextMove = .hostSetup addr 0 bs ∧ bs.length ≠ 8 ∧ r = .setupNotEightBytes)

/-! ### The machine as a whole -/

/-- No step writes the descriptor ROM (20_memory.md R55). That the parameters are fields no step writes is the
model's choice (log entry 1). -/
def Obligations.RomAndParametersNeverChange : Prop :=
  ∀ s t : State, step s = .next t →
    t.rom = s.rom ∧ t.params = s.params ∧ ∀ a, readCell t.rom a = readCell s.rom a

/-- What every step does to `ctl`: the transition 10_state.md R35 lists for it, at the enabling of
41_dispatcher.md R101, and nothing else. A decode goes where the action's row of R104 says, a chunk keeps
the bytes after the first `min(len(rest), M)` (43_descriptor_engine.md R138); a turn of the frame handler, a
hold and every event but a SETUP and a bus reset leave `ctl` as it was. -/
def Obligations.ControlTransitionsAreTheListed : Prop :=
  ∀ s t : State, step s = .next t →
    (s.nextMove = .block → s.frameEnabled = true ∨ s.dispatcherEnabled = false → t.ctl = s.ctl) ∧
    (s.nextMove = .block → s.frameEnabled = false → s.dispatcherEnabled = true →
      (s.ctl = .idle ∨ s.ctl = .setupReceived →
        match decode s.setupBuf with
        | .stall _ _ => t.ctl = .idle
        | .setAddress a => t.ctl = .statusInAddr a
        | .hidSetReport => t.ctl = .dataOut
        | .getDescriptorDevice _ | .getDescriptorConfiguration _ | .getDescriptorHid _ | .getDescriptorReport _
        | .getConfiguration | .getStatusEndpoint _ | .getStatus | .hidGetReport | .hidGetIdle | .hidGetProtocol =>
          ∃ bs, t.ctl = .dataIn bs
        | .setConfiguration _ | .setFeatureHaltEp1 | .setFeatureHaltEp2 | .setFeatureHaltEp3 | .setFeatureHaltEp4
        | .clearFeatureHaltEp1 | .clearFeatureHaltEp2 | .clearFeatureHaltEp3 | .clearFeatureHaltEp4 | .hidSetIdle _
        | .hidSetProtocol _ => t.ctl = .statusIn) ∧
      (∀ rest, s.ctl = .dataIn rest →
        t.ctl = if rest.length ≤ (ep0SizeOf s.params.ep0Size).bytes then .idle
          else .dataIn (rest.drop (ep0SizeOf s.params.ep0Size).bytes)) ∧
      (s.ctl = .dataOut → t.ctl = .statusIn) ∧
      (s.ctl = .statusIn → t.ctl = .idle) ∧
      (∀ a, s.ctl = .statusInAddr a → t.ctl = .addressWait a) ∧
      (∀ a, s.ctl = .addressWait a → t.ctl = .idle ∧ t.address = a)) ∧
    (∀ addr e bs, s.nextMove = .hostSetup addr e bs →
      t.ctl = if addr = s.address ∧ e = 0 ∧ s.eps.ep0.en = true ∧ s.ctl ≠ .idle then .setupReceived else s.ctl) ∧
    (s.nextMove = .hostReset → t.ctl = match s.params.resetInWait with | .abort => .idle | .hold => s.ctl) ∧
    (s.nextMove = .hostSof ∨ (∃ addr e, s.nextMove = .hostIn addr e) ∨ (∃ addr e xs, s.nextMove = .hostOut addr e xs) ∨
        (∃ slot v, s.nextMove = .appWrite slot v) ∨ s.nextMove = .appReadLeds →
      t.ctl = s.ctl)

/-- Who may write each piece of state, and how (10_state.md R38): the block's turn of the frame handler, the
block's turn of the dispatcher, each of the host's events, the application's steps. Where a rule writes more
than R38's table names it is that rule's: bus-reset work clears endpoint 0's `txq` (R90), SET_CONFIGURATION
the slots' queues (R120), an IN flips the toggle (R163), a bus reset clears `setup_pending` (R168). -/
def Obligations.EachAgentWritesOnlyItsState : Prop :=
  ∀ s t : State, step s = .next t →
    (s.nextMove = .block → s.frameEnabled = true →
      t.keys = s.keys ∧ t.idleConfig = s.idleConfig ∧ t.protocol = s.protocol ∧ t.leds = s.leds ∧ t.address = s.address ∧
      t.setupPending = s.setupPending ∧ t.setupBuf = s.setupBuf ∧ t.ctl = s.ctl ∧ t.lastStall = s.lastStall ∧
      (t.currentConfiguration = s.currentConfiguration ∨ t.currentConfiguration = 0) ∧
      (s.resetPending = false →
        t.ep .e0 = s.ep .e0 ∧ t.setupIe = s.setupIe ∧ t.currentConfiguration = s.currentConfiguration) ∧
      (t.ep .e0).toggle = (s.ep .e0).toggle ∧
      ((t.ep .e0).txq = (s.ep .e0).txq ∨ (t.ep .e0).txq = []) ∧ ((t.ep .e0).rxq = (s.ep .e0).rxq ∨ (t.ep .e0).rxq = []) ∧
      ∀ a : AppEp, ∃ xs, t.ep (appNum a) = { s.ep (appNum a) with txq := (s.ep (appNum a)).txq ++ xs } ∧
        (a ≠ s.params.kbdEp → xs = [])) ∧
    (s.nextMove = .block → s.frameEnabled = false →
      t.keys = s.keys ∧ t.fq = s.fq ∧ t.resetPending = s.resetPending ∧ t.sofPending = s.sofPending ∧
      (t.setupPending = s.setupPending ∨ t.setupPending = false) ∧ t.setupBuf = s.setupBuf ∧ t.setupIe = s.setupIe ∧
      t.ep .e0 = { s.ep .e0 with halt := (t.ep .e0).halt, txq := (t.ep .e0).txq, rxq := (t.ep .e0).rxq } ∧
      (∃ xs, (t.ep .e0).txq = (s.ep .e0).txq ++ xs) ∧
      ((t.ep .e0).rxq = (s.ep .e0).rxq ∨ (t.ep .e0).rxq = (s.ep .e0).rxq.tail) ∧
      ∀ a : AppEp,
        ((t.ep (appNum a)).txq = (s.ep (appNum a)).txq ∧ (t.ep (appNum a)).rxq = (s.ep (appNum a)).rxq) ∨
        ((t.ep (appNum a)).txq = [] ∧ (t.ep (appNum a)).rxq = [] ∧ (s.ctl = .idle ∨ s.ctl = .setupReceived) ∧
          ∃ v, decode s.setupBuf = .setConfiguration v)) ∧
    (s.nextMove = .hostSof → t = { s with env := s.env.tail, answer := t.answer, sofPending := true }) ∧
    (∀ addr e, s.nextMove = .hostIn addr e →
      t = { s with env := s.env.tail, answer := t.answer, eps := t.eps } ∧
      ∀ i, t.ep i = s.ep i ∨ t.ep i = { s.ep i with txq := (s.ep i).txq.tail, toggle := (s.ep i).toggle.flip }) ∧
    (∀ addr e xs, s.nextMove = .hostOut addr e xs →
      t = { s with env := s.env.tail, answer := t.answer, eps := t.eps } ∧
      ∀ i, t.ep i = s.ep i ∨ t.ep i = { s.ep i with rxq := (s.ep i).rxq ++ [xs] }) ∧
    (∀ addr e bs, s.nextMove = .hostSetup addr e bs →
      t = { s with env := s.env.tail, answer := t.answer, setupBuf := t.setupBuf, setupPending := t.setupPending
                   ctl := t.ctl, eps := t.eps } ∧
      (s.setupPending = true → t.setupPending = true) ∧ (∀ a : AppEp, t.ep (appNum a) = s.ep (appNum a)) ∧
      (t.ep .e0 = s.ep .e0 ∨ t.ep .e0 = { s.ep .e0 with halt := false, toggle := .data1, txq := [], rxq := [] })) ∧
    (s.nextMove = .hostReset →
      t = { s with env := s.env.tail, answer := t.answer, address := 0, setupPending := false, resetPending := true
                   ctl := t.ctl, eps := t.eps } ∧
      t.ep .e0 = s.ep .e0 ∧
      ∀ a : AppEp, t.ep (appNum a) =
        { s.ep (appNum a) with en := false, halt := false, toggle := .data0, txq := [], rxq := [] }) ∧
    (s.nextMove = .appReadLeds → t = { s with env := s.env.tail, answer := t.answer }) ∧
    (∀ slot v, s.nextMove = .appWrite slot v →
      t = { s with env := s.env.tail, answer := t.answer, keys := t.keys } ∧
      (t.keys ≠ s.keys → s.params.appWritesKeys = true ∧ s.ctl = .idle))

/-- The address changes only when a SET_ADDRESS ends, to its operand, or at a bus reset, to 0
(10_state.md R29, 42_standard_requests.md R118). That a SET_ADDRESS also ends so after a bus reset under Hold is
the model's choice (log entry 23). -/
def Obligations.AddressChangesOnlyThen : Prop :=
  ∀ s t : State, step s = .next t → t.address ≠ s.address →
    (s.nextMove = .block ∧ s.ctl = .addressWait t.address) ∨ (s.nextMove = .hostReset ∧ t.address = 0)

/-- A disabled slot is enabled by SET_CONFIGURATION alone, and only the keyboard slot is (10_state.md R36,
45_endpoint_engine.md R169); endpoint 0 is enabled by bus-reset work alone and never disabled again
(45_endpoint_engine.md R170). It is a part of what 10_state.md R39 (b) infers: the SET_CONFIGURATION may be decoded
before a bus reset under Hold is handled, and the slot then stays enabled, the model's choice (log entry 22). -/
def Obligations.EndpointsAreEnabledOnlySo : Prop :=
  ∀ s t : State, step s = .next t →
    (∀ a : AppEp, (s.ep (appNum a)).en = false → (t.ep (appNum a)).en = true →
      s.nextMove = .block ∧ (s.ctl = .idle ∨ s.ctl = .setupReceived) ∧ (∃ v, decode s.setupBuf = .setConfiguration v) ∧
        a = s.params.kbdEp) ∧
    (s.eps.ep0.en = true → t.eps.ep0.en = true) ∧
    (s.eps.ep0.en = false → t.eps.ep0.en = true → s.nextMove = .block ∧ s.ctl = .idle ∧ s.resetPending = true)

/-- `protocol` has no effect on the block: whatever value it holds, every step but the decode of a GET_PROTOCOL,
which reads it, and of a SET_PROTOCOL, which writes it, goes the same way and keeps it (44_hid_requests.md R150). -/
def Obligations.ProtocolHasNoEffect : Prop :=
  ∀ (s t : State) (x : Byte), step s = .next t →
    (s.nextMove = .block → s.frameEnabled = false → s.dispatcherEnabled = true → s.ctl = .idle ∨ s.ctl = .setupReceived →
      decode s.setupBuf ≠ .hidGetProtocol ∧ ∀ p, decode s.setupBuf ≠ .hidSetProtocol p) →
    t.protocol = s.protocol ∧ step { s with protocol := x } = .next { t with protocol := x }

/-- Nothing in the block reads `last_stall` (10_state.md R41). -/
def Obligations.LastStallIsNeverRead : Prop :=
  ∀ (s t : State) (x : Option StallCause), step s = .next t →
    ∃ y, step { s with lastStall := x } = .next { t with lastStall := y } ∧ (y = x ∨ y = t.lastStall)

/-! ### Transfers -/

/-- A SET_ADDRESS transfer: the status packet is taken at the old address, and only the step after that
writes the new one (42_standard_requests.md R118, 70_reset_and_hazards.md R201); its PID rests on R157. -/
def Obligations.SetAddressTransfer : Prop :=
  ∀ (s : State) (p : SetupPacket) (a : U7), s.Ready → decode p = .setAddress a →
    ∃ t u, play [.hostSetup s.address 0 p.bytes, .block, .block, .hostIn s.address 0] s = some ([.ack, .data .data1 []], t) ∧
      t.address = s.address ∧ t.ctl = .addressWait a ∧
      play [.block] t = some ([], u) ∧ u.address = a ∧ u.ctl = .idle

/-- A SETUP before the last step of a SET_ADDRESS aborts it: the address stays, at that step and after
the new packet's decode step (41_dispatcher.md R105, "derived: from rule R104 and" R118). -/
def Obligations.AbortedSetAddressLeavesTheAddress : Prop :=
  ∀ (s : State) (p : SetupPacket) (a : U7), s.ctl = .statusInAddr a ∨ s.ctl = .addressWait a → s.eps.ep0.en = true →
    s.RomLoaded →
    ∃ t, play [.hostSetup s.address 0 p.bytes, .block] s = some ([.ack], t) ∧ t.address = s.address ∧
      (∀ b, t.ctl ≠ .addressWait b) ∧ t.eps.ep0.txq = []

/-- GET_CONFIGURATION after SET_CONFIGURATION(v) returns `v`; after a bus reset it returns 0, even when
its SETUP arrives before the reset is handled (42_standard_requests.md R120, R121, 60_exceptions.md R178). -/
def Obligations.ConfigurationReadsBack : Prop :=
  ∀ (s : State) (p q : SetupPacket) (v : Byte), s.Ready → decode p = .setConfiguration v → decode q = .getConfiguration →
    (∃ t, play [.hostSetup s.address 0 p.bytes, .block, .block, .hostIn s.address 0,
        .hostSetup s.address 0 q.bytes, .block, .block, .hostIn s.address 0] s =
      some ([.ack, .data .data1 [], .ack, .data .data1 [v]], t)) ∧
    ∃ t, play [.hostReset, .hostSetup 0 0 q.bytes, .block, .block, .block, .hostIn 0 0] s =
      some ([.silent, .ack, .data .data1 [0]], t)

/-- The HID registers read back what was written, with a bus reset in between: what the spec infers of its
requests (44_hid_requests.md R154, "derived: from rules R147, R149, R151 to R153"). -/
def Obligations.HidRegistersReadBack : Prop :=
  ∀ (s : State) (p q : SetupPacket) (b : Byte) (bs : List Byte), s.Ready →
    (decode p = .hidSetIdle b → decode q = .hidGetIdle →
      ∃ t, play [.hostSetup s.address 0 p.bytes, .block, .block, .hostReset, .block,
        .hostSetup 0 0 q.bytes, .block, .block, .hostIn 0 0] s = some ([.ack, .silent, .ack, .data .data1 [b]], t)) ∧
    (decode p = .hidSetProtocol b → decode q = .hidGetProtocol →
      ∃ t, play [.hostSetup s.address 0 p.bytes, .block, .block, .hostReset, .block,
        .hostSetup 0 0 q.bytes, .block, .block, .hostIn 0 0] s = some ([.ack, .silent, .ack, .data .data1 [b]], t)) ∧
    (decode p = .hidSetReport → (b :: bs).length ≤ s.eps.ep0.size.bytes →
      ∃ t, play [.hostSetup s.address 0 p.bytes, .block, .hostOut s.address 0 (b :: bs), .block, .block,
        .hostIn s.address 0, .hostReset, .block, .appReadLeds] s =
          some ([.ack, .ack, .data .data1 [], .silent, .leds b], t))

/-- A halt set by SET_FEATURE shows in GET_STATUS and as STALL on the slot's tokens until CLEAR_FEATURE
clears it (42_standard_requests.md R119, R122, R123, 45_endpoint_engine.md R163). -/
def Obligations.HaltShowsUntilCleared : Prop :=
  ∀ (s : State) (a : AppEp) (p q r : SetupPacket) (e : U7), s.Ready → (s.ep (appNum a)).en = true →
    (s.ep (appNum a)).txq = [] → decode p = setHaltInstr a → decode q = clearHaltInstr a →
    decode r = .getStatusEndpoint e → e.toNat = (tokenOf a).toNat →
    ∃ t u, play [.hostSetup s.address 0 p.bytes, .block, .block, .hostIn s.address 0, .hostIn s.address (tokenOf a),
        .hostSetup s.address 0 r.bytes, .block, .block, .hostIn s.address 0] s =
          some ([.ack, .data .data1 [], .stall, .ack, .data .data1 [1, 0]], t) ∧
      play [.hostSetup s.address 0 q.bytes, .block, .block, .hostIn s.address 0, .hostIn s.address (tokenOf a),
        .hostSetup s.address 0 r.bytes, .block, .block, .hostIn s.address 0] t =
          some ([.ack, .data .data1 [], .nak, .ack, .data .data1 [0, 0]], u)

/-- A stalled control endpoint answers every IN and OUT with STALL and takes the next SETUP, which clears
the halt (41_dispatcher.md R106, 45_endpoint_engine.md R157, R163, R164, 60_exceptions.md R183). -/
def Obligations.StalledEndpointTakesTheNextSetup : Prop :=
  ∀ (s : State) (p q : SetupPacket) (c : StallCause), s.Ready → decode p = .stall c p →
    ∃ t u, play [.hostSetup s.address 0 p.bytes, .block, .hostIn s.address 0, .hostOut s.address 0 []] s =
        some ([.ack, .stall, .stall], t) ∧
      t = { s with
        setupBuf := p
        eps := { s.eps with ep0 := { s.eps.ep0 with halt := true, txq := [], rxq := [], toggle := .data1 } }
        lastStall := some c
        setupPending := false
        answer := .stall } ∧
      play [.hostSetup s.address 0 q.bytes] t = some ([.ack], u) ∧ u.eps.ep0.halt = false ∧ u.setupPending = true

/-- GET_STATUS on endpoint 0 reports 0 in every state that meets the invariant and decodes it, since the
SETUP cleared the halt (42_standard_requests.md R119). -/
def Obligations.EndpointZeroStatusIsZero : Prop :=
  ∀ s : State, s.Inv → s.nextMove = .block → s.frameEnabled = false → s.dispatcherEnabled = true →
    s.ctl = .idle ∨ s.ctl = .setupReceived → decode s.setupBuf = .getStatusEndpoint 0 →
    step s = .next { s with env := s.env.tail, setupPending := false, ctl := .dataIn [0x00, 0x00] }

/-- Both parts of a bus reset done, with `RESET_IN_WAIT` = Abort: what 70_reset_and_hazards.md R197 lists
is what the state is, and the rest is unchanged. -/
def Obligations.BusResetInTwoParts : Prop :=
  ∀ s : State, s.params.resetInWait = .abort →
    ∃ t, play [.hostReset, .block] s = some ([.silent], t) ∧
      t = { s with
        currentConfiguration := 0
        address := 0
        resetPending := false
        sofPending := false
        setupPending := false
        ctl := .idle
        setupIe := true
        answer := .silent
        eps := t.eps } ∧
      t.ep .e0 = { s.ep .e0 with
        en := true, type := .control, dir := .both, size := ep0SizeOf s.params.ep0Size, banks := .one, halt := false
        txq := [], rxq := [] } ∧
      ∀ a : AppEp, t.ep (appNum a) =
        { s.ep (appNum a) with en := false, halt := false, toggle := .data0, txq := [], rxq := [] }
end

