-- ==== Sys2Proof/Laws/State.lean ====
section
/-! SUPPORT. One lemma per field per named update of `State`, and what `ep` reads after an update. -/
namespace Sys2Proof.Machine.State

section
variable (s : State) (v : Byte)
@[simp] theorem setCurrentConfiguration_currentConfiguration : (s.setCurrentConfiguration v).currentConfiguration = v := rfl
@[simp] theorem setCurrentConfiguration_keys : (s.setCurrentConfiguration v).keys = s.keys := rfl
@[simp] theorem setCurrentConfiguration_idleConfig : (s.setCurrentConfiguration v).idleConfig = s.idleConfig := rfl
@[simp] theorem setCurrentConfiguration_idleCount : (s.setCurrentConfiguration v).idleCount = s.idleCount := rfl
@[simp] theorem setCurrentConfiguration_protocol : (s.setCurrentConfiguration v).protocol = s.protocol := rfl
@[simp] theorem setCurrentConfiguration_leds : (s.setCurrentConfiguration v).leds = s.leds := rfl
@[simp] theorem setCurrentConfiguration_fq : (s.setCurrentConfiguration v).fq = s.fq := rfl
@[simp] theorem setCurrentConfiguration_address : (s.setCurrentConfiguration v).address = s.address := rfl
@[simp] theorem setCurrentConfiguration_resetPending : (s.setCurrentConfiguration v).resetPending = s.resetPending := rfl
@[simp] theorem setCurrentConfiguration_sofPending : (s.setCurrentConfiguration v).sofPending = s.sofPending := rfl
@[simp] theorem setCurrentConfiguration_setupPending : (s.setCurrentConfiguration v).setupPending = s.setupPending := rfl
@[simp] theorem setCurrentConfiguration_setupBuf : (s.setCurrentConfiguration v).setupBuf = s.setupBuf := rfl
@[simp] theorem setCurrentConfiguration_ctl : (s.setCurrentConfiguration v).ctl = s.ctl := rfl
@[simp] theorem setCurrentConfiguration_eps : (s.setCurrentConfiguration v).eps = s.eps := rfl
@[simp] theorem setCurrentConfiguration_setupIe : (s.setCurrentConfiguration v).setupIe = s.setupIe := rfl
@[simp] theorem setCurrentConfiguration_lastStall : (s.setCurrentConfiguration v).lastStall = s.lastStall := rfl
@[simp] theorem setCurrentConfiguration_rom : (s.setCurrentConfiguration v).rom = s.rom := rfl
@[simp] theorem setCurrentConfiguration_params : (s.setCurrentConfiguration v).params = s.params := rfl
@[simp] theorem setCurrentConfiguration_env : (s.setCurrentConfiguration v).env = s.env := rfl
@[simp] theorem setCurrentConfiguration_answer : (s.setCurrentConfiguration v).answer = s.answer := rfl
@[simp] theorem setCurrentConfiguration_draws : (s.setCurrentConfiguration v).draws = s.draws := rfl
@[simp] theorem setCurrentConfiguration_ep (i : EpNum) : (s.setCurrentConfiguration v).ep i = s.ep i := rfl
end

section
variable (s : State) (v : KeyState)
@[simp] theorem setKeys_currentConfiguration : (s.setKeys v).currentConfiguration = s.currentConfiguration := rfl
@[simp] theorem setKeys_keys : (s.setKeys v).keys = v := rfl
@[simp] theorem setKeys_idleConfig : (s.setKeys v).idleConfig = s.idleConfig := rfl
@[simp] theorem setKeys_idleCount : (s.setKeys v).idleCount = s.idleCount := rfl
@[simp] theorem setKeys_protocol : (s.setKeys v).protocol = s.protocol := rfl
@[simp] theorem setKeys_leds : (s.setKeys v).leds = s.leds := rfl
@[simp] theorem setKeys_fq : (s.setKeys v).fq = s.fq := rfl
@[simp] theorem setKeys_address : (s.setKeys v).address = s.address := rfl
@[simp] theorem setKeys_resetPending : (s.setKeys v).resetPending = s.resetPending := rfl
@[simp] theorem setKeys_sofPending : (s.setKeys v).sofPending = s.sofPending := rfl
@[simp] theorem setKeys_setupPending : (s.setKeys v).setupPending = s.setupPending := rfl
@[simp] theorem setKeys_setupBuf : (s.setKeys v).setupBuf = s.setupBuf := rfl
@[simp] theorem setKeys_ctl : (s.setKeys v).ctl = s.ctl := rfl
@[simp] theorem setKeys_eps : (s.setKeys v).eps = s.eps := rfl
@[simp] theorem setKeys_setupIe : (s.setKeys v).setupIe = s.setupIe := rfl
@[simp] theorem setKeys_lastStall : (s.setKeys v).lastStall = s.lastStall := rfl
@[simp] theorem setKeys_rom : (s.setKeys v).rom = s.rom := rfl
@[simp] theorem setKeys_params : (s.setKeys v).params = s.params := rfl
@[simp] theorem setKeys_env : (s.setKeys v).env = s.env := rfl
@[simp] theorem setKeys_answer : (s.setKeys v).answer = s.answer := rfl
@[simp] theorem setKeys_draws : (s.setKeys v).draws = s.draws := rfl
@[simp] theorem setKeys_ep (i : EpNum) : (s.setKeys v).ep i = s.ep i := rfl
end

section
variable (s : State) (v : Byte)
@[simp] theorem setIdleConfig_currentConfiguration : (s.setIdleConfig v).currentConfiguration = s.currentConfiguration := rfl
@[simp] theorem setIdleConfig_keys : (s.setIdleConfig v).keys = s.keys := rfl
@[simp] theorem setIdleConfig_idleConfig : (s.setIdleConfig v).idleConfig = v := rfl
@[simp] theorem setIdleConfig_idleCount : (s.setIdleConfig v).idleCount = s.idleCount := rfl
@[simp] theorem setIdleConfig_protocol : (s.setIdleConfig v).protocol = s.protocol := rfl
@[simp] theorem setIdleConfig_leds : (s.setIdleConfig v).leds = s.leds := rfl
@[simp] theorem setIdleConfig_fq : (s.setIdleConfig v).fq = s.fq := rfl
@[simp] theorem setIdleConfig_address : (s.setIdleConfig v).address = s.address := rfl
@[simp] theorem setIdleConfig_resetPending : (s.setIdleConfig v).resetPending = s.resetPending := rfl
@[simp] theorem setIdleConfig_sofPending : (s.setIdleConfig v).sofPending = s.sofPending := rfl
@[simp] theorem setIdleConfig_setupPending : (s.setIdleConfig v).setupPending = s.setupPending := rfl
@[simp] theorem setIdleConfig_setupBuf : (s.setIdleConfig v).setupBuf = s.setupBuf := rfl
@[simp] theorem setIdleConfig_ctl : (s.setIdleConfig v).ctl = s.ctl := rfl
@[simp] theorem setIdleConfig_eps : (s.setIdleConfig v).eps = s.eps := rfl
@[simp] theorem setIdleConfig_setupIe : (s.setIdleConfig v).setupIe = s.setupIe := rfl
@[simp] theorem setIdleConfig_lastStall : (s.setIdleConfig v).lastStall = s.lastStall := rfl
@[simp] theorem setIdleConfig_rom : (s.setIdleConfig v).rom = s.rom := rfl
@[simp] theorem setIdleConfig_params : (s.setIdleConfig v).params = s.params := rfl
@[simp] theorem setIdleConfig_env : (s.setIdleConfig v).env = s.env := rfl
@[simp] theorem setIdleConfig_answer : (s.setIdleConfig v).answer = s.answer := rfl
@[simp] theorem setIdleConfig_draws : (s.setIdleConfig v).draws = s.draws := rfl
@[simp] theorem setIdleConfig_ep (i : EpNum) : (s.setIdleConfig v).ep i = s.ep i := rfl
end

section
variable (s : State) (v : Byte)
@[simp] theorem setIdleCount_currentConfiguration : (s.setIdleCount v).currentConfiguration = s.currentConfiguration := rfl
@[simp] theorem setIdleCount_keys : (s.setIdleCount v).keys = s.keys := rfl
@[simp] theorem setIdleCount_idleConfig : (s.setIdleCount v).idleConfig = s.idleConfig := rfl
@[simp] theorem setIdleCount_idleCount : (s.setIdleCount v).idleCount = v := rfl
@[simp] theorem setIdleCount_protocol : (s.setIdleCount v).protocol = s.protocol := rfl
@[simp] theorem setIdleCount_leds : (s.setIdleCount v).leds = s.leds := rfl
@[simp] theorem setIdleCount_fq : (s.setIdleCount v).fq = s.fq := rfl
@[simp] theorem setIdleCount_address : (s.setIdleCount v).address = s.address := rfl
@[simp] theorem setIdleCount_resetPending : (s.setIdleCount v).resetPending = s.resetPending := rfl
@[simp] theorem setIdleCount_sofPending : (s.setIdleCount v).sofPending = s.sofPending := rfl
@[simp] theorem setIdleCount_setupPending : (s.setIdleCount v).setupPending = s.setupPending := rfl
@[simp] theorem setIdleCount_setupBuf : (s.setIdleCount v).setupBuf = s.setupBuf := rfl
@[simp] theorem setIdleCount_ctl : (s.setIdleCount v).ctl = s.ctl := rfl
@[simp] theorem setIdleCount_eps : (s.setIdleCount v).eps = s.eps := rfl
@[simp] theorem setIdleCount_setupIe : (s.setIdleCount v).setupIe = s.setupIe := rfl
@[simp] theorem setIdleCount_lastStall : (s.setIdleCount v).lastStall = s.lastStall := rfl
@[simp] theorem setIdleCount_rom : (s.setIdleCount v).rom = s.rom := rfl
@[simp] theorem setIdleCount_params : (s.setIdleCount v).params = s.params := rfl
@[simp] theorem setIdleCount_env : (s.setIdleCount v).env = s.env := rfl
@[simp] theorem setIdleCount_answer : (s.setIdleCount v).answer = s.answer := rfl
@[simp] theorem setIdleCount_draws : (s.setIdleCount v).draws = s.draws := rfl
@[simp] theorem setIdleCount_ep (i : EpNum) : (s.setIdleCount v).ep i = s.ep i := rfl
end

section
variable (s : State) (v : Byte)
@[simp] theorem setProtocol_currentConfiguration : (s.setProtocol v).currentConfiguration = s.currentConfiguration := rfl
@[simp] theorem setProtocol_keys : (s.setProtocol v).keys = s.keys := rfl
@[simp] theorem setProtocol_idleConfig : (s.setProtocol v).idleConfig = s.idleConfig := rfl
@[simp] theorem setProtocol_idleCount : (s.setProtocol v).idleCount = s.idleCount := rfl
@[simp] theorem setProtocol_protocol : (s.setProtocol v).protocol = v := rfl
@[simp] theorem setProtocol_leds : (s.setProtocol v).leds = s.leds := rfl
@[simp] theorem setProtocol_fq : (s.setProtocol v).fq = s.fq := rfl
@[simp] theorem setProtocol_address : (s.setProtocol v).address = s.address := rfl
@[simp] theorem setProtocol_resetPending : (s.setProtocol v).resetPending = s.resetPending := rfl
@[simp] theorem setProtocol_sofPending : (s.setProtocol v).sofPending = s.sofPending := rfl
@[simp] theorem setProtocol_setupPending : (s.setProtocol v).setupPending = s.setupPending := rfl
@[simp] theorem setProtocol_setupBuf : (s.setProtocol v).setupBuf = s.setupBuf := rfl
@[simp] theorem setProtocol_ctl : (s.setProtocol v).ctl = s.ctl := rfl
@[simp] theorem setProtocol_eps : (s.setProtocol v).eps = s.eps := rfl
@[simp] theorem setProtocol_setupIe : (s.setProtocol v).setupIe = s.setupIe := rfl
@[simp] theorem setProtocol_lastStall : (s.setProtocol v).lastStall = s.lastStall := rfl
@[simp] theorem setProtocol_rom : (s.setProtocol v).rom = s.rom := rfl
@[simp] theorem setProtocol_params : (s.setProtocol v).params = s.params := rfl
@[simp] theorem setProtocol_env : (s.setProtocol v).env = s.env := rfl
@[simp] theorem setProtocol_answer : (s.setProtocol v).answer = s.answer := rfl
@[simp] theorem setProtocol_draws : (s.setProtocol v).draws = s.draws := rfl
@[simp] theorem setProtocol_ep (i : EpNum) : (s.setProtocol v).ep i = s.ep i := rfl
end

section
variable (s : State) (v : Byte)
@[simp] theorem setLeds_currentConfiguration : (s.setLeds v).currentConfiguration = s.currentConfiguration := rfl
@[simp] theorem setLeds_keys : (s.setLeds v).keys = s.keys := rfl
@[simp] theorem setLeds_idleConfig : (s.setLeds v).idleConfig = s.idleConfig := rfl
@[simp] theorem setLeds_idleCount : (s.setLeds v).idleCount = s.idleCount := rfl
@[simp] theorem setLeds_protocol : (s.setLeds v).protocol = s.protocol := rfl
@[simp] theorem setLeds_leds : (s.setLeds v).leds = v := rfl
@[simp] theorem setLeds_fq : (s.setLeds v).fq = s.fq := rfl
@[simp] theorem setLeds_address : (s.setLeds v).address = s.address := rfl
@[simp] theorem setLeds_resetPending : (s.setLeds v).resetPending = s.resetPending := rfl
@[simp] theorem setLeds_sofPending : (s.setLeds v).sofPending = s.sofPending := rfl
@[simp] theorem setLeds_setupPending : (s.setLeds v).setupPending = s.setupPending := rfl
@[simp] theorem setLeds_setupBuf : (s.setLeds v).setupBuf = s.setupBuf := rfl
@[simp] theorem setLeds_ctl : (s.setLeds v).ctl = s.ctl := rfl
@[simp] theorem setLeds_eps : (s.setLeds v).eps = s.eps := rfl
@[simp] theorem setLeds_setupIe : (s.setLeds v).setupIe = s.setupIe := rfl
@[simp] theorem setLeds_lastStall : (s.setLeds v).lastStall = s.lastStall := rfl
@[simp] theorem setLeds_rom : (s.setLeds v).rom = s.rom := rfl
@[simp] theorem setLeds_params : (s.setLeds v).params = s.params := rfl
@[simp] theorem setLeds_env : (s.setLeds v).env = s.env := rfl
@[simp] theorem setLeds_answer : (s.setLeds v).answer = s.answer := rfl
@[simp] theorem setLeds_draws : (s.setLeds v).draws = s.draws := rfl
@[simp] theorem setLeds_ep (i : EpNum) : (s.setLeds v).ep i = s.ep i := rfl
end

section
variable (s : State) (v : BitVec 2)
@[simp] theorem setFq_currentConfiguration : (s.setFq v).currentConfiguration = s.currentConfiguration := rfl
@[simp] theorem setFq_keys : (s.setFq v).keys = s.keys := rfl
@[simp] theorem setFq_idleConfig : (s.setFq v).idleConfig = s.idleConfig := rfl
@[simp] theorem setFq_idleCount : (s.setFq v).idleCount = s.idleCount := rfl
@[simp] theorem setFq_protocol : (s.setFq v).protocol = s.protocol := rfl
@[simp] theorem setFq_leds : (s.setFq v).leds = s.leds := rfl
@[simp] theorem setFq_fq : (s.setFq v).fq = v := rfl
@[simp] theorem setFq_address : (s.setFq v).address = s.address := rfl
@[simp] theorem setFq_resetPending : (s.setFq v).resetPending = s.resetPending := rfl
@[simp] theorem setFq_sofPending : (s.setFq v).sofPending = s.sofPending := rfl
@[simp] theorem setFq_setupPending : (s.setFq v).setupPending = s.setupPending := rfl
@[simp] theorem setFq_setupBuf : (s.setFq v).setupBuf = s.setupBuf := rfl
@[simp] theorem setFq_ctl : (s.setFq v).ctl = s.ctl := rfl
@[simp] theorem setFq_eps : (s.setFq v).eps = s.eps := rfl
@[simp] theorem setFq_setupIe : (s.setFq v).setupIe = s.setupIe := rfl
@[simp] theorem setFq_lastStall : (s.setFq v).lastStall = s.lastStall := rfl
@[simp] theorem setFq_rom : (s.setFq v).rom = s.rom := rfl
@[simp] theorem setFq_params : (s.setFq v).params = s.params := rfl
@[simp] theorem setFq_env : (s.setFq v).env = s.env := rfl
@[simp] theorem setFq_answer : (s.setFq v).answer = s.answer := rfl
@[simp] theorem setFq_draws : (s.setFq v).draws = s.draws := rfl
@[simp] theorem setFq_ep (i : EpNum) : (s.setFq v).ep i = s.ep i := rfl
end

section
variable (s : State) (v : U7)
@[simp] theorem setAddress_currentConfiguration : (s.setAddress v).currentConfiguration = s.currentConfiguration := rfl
@[simp] theorem setAddress_keys : (s.setAddress v).keys = s.keys := rfl
@[simp] theorem setAddress_idleConfig : (s.setAddress v).idleConfig = s.idleConfig := rfl
@[simp] theorem setAddress_idleCount : (s.setAddress v).idleCount = s.idleCount := rfl
@[simp] theorem setAddress_protocol : (s.setAddress v).protocol = s.protocol := rfl
@[simp] theorem setAddress_leds : (s.setAddress v).leds = s.leds := rfl
@[simp] theorem setAddress_fq : (s.setAddress v).fq = s.fq := rfl
@[simp] theorem setAddress_address : (s.setAddress v).address = v := rfl
@[simp] theorem setAddress_resetPending : (s.setAddress v).resetPending = s.resetPending := rfl
@[simp] theorem setAddress_sofPending : (s.setAddress v).sofPending = s.sofPending := rfl
@[simp] theorem setAddress_setupPending : (s.setAddress v).setupPending = s.setupPending := rfl
@[simp] theorem setAddress_setupBuf : (s.setAddress v).setupBuf = s.setupBuf := rfl
@[simp] theorem setAddress_ctl : (s.setAddress v).ctl = s.ctl := rfl
@[simp] theorem setAddress_eps : (s.setAddress v).eps = s.eps := rfl
@[simp] theorem setAddress_setupIe : (s.setAddress v).setupIe = s.setupIe := rfl
@[simp] theorem setAddress_lastStall : (s.setAddress v).lastStall = s.lastStall := rfl
@[simp] theorem setAddress_rom : (s.setAddress v).rom = s.rom := rfl
@[simp] theorem setAddress_params : (s.setAddress v).params = s.params := rfl
@[simp] theorem setAddress_env : (s.setAddress v).env = s.env := rfl
@[simp] theorem setAddress_answer : (s.setAddress v).answer = s.answer := rfl
@[simp] theorem setAddress_draws : (s.setAddress v).draws = s.draws := rfl
@[simp] theorem setAddress_ep (i : EpNum) : (s.setAddress v).ep i = s.ep i := rfl
end

section
variable (s : State) (v : Bool)
@[simp] theorem setResetPending_currentConfiguration : (s.setResetPending v).currentConfiguration = s.currentConfiguration := rfl
@[simp] theorem setResetPending_keys : (s.setResetPending v).keys = s.keys := rfl
@[simp] theorem setResetPending_idleConfig : (s.setResetPending v).idleConfig = s.idleConfig := rfl
@[simp] theorem setResetPending_idleCount : (s.setResetPending v).idleCount = s.idleCount := rfl
@[simp] theorem setResetPending_protocol : (s.setResetPending v).protocol = s.protocol := rfl
@[simp] theorem setResetPending_leds : (s.setResetPending v).leds = s.leds := rfl
@[simp] theorem setResetPending_fq : (s.setResetPending v).fq = s.fq := rfl
@[simp] theorem setResetPending_address : (s.setResetPending v).address = s.address := rfl
@[simp] theorem setResetPending_resetPending : (s.setResetPending v).resetPending = v := rfl
@[simp] theorem setResetPending_sofPending : (s.setResetPending v).sofPending = s.sofPending := rfl
@[simp] theorem setResetPending_setupPending : (s.setResetPending v).setupPending = s.setupPending := rfl
@[simp] theorem setResetPending_setupBuf : (s.setResetPending v).setupBuf = s.setupBuf := rfl
@[simp] theorem setResetPending_ctl : (s.setResetPending v).ctl = s.ctl := rfl
@[simp] theorem setResetPending_eps : (s.setResetPending v).eps = s.eps := rfl
@[simp] theorem setResetPending_setupIe : (s.setResetPending v).setupIe = s.setupIe := rfl
@[simp] theorem setResetPending_lastStall : (s.setResetPending v).lastStall = s.lastStall := rfl
@[simp] theorem setResetPending_rom : (s.setResetPending v).rom = s.rom := rfl
@[simp] theorem setResetPending_params : (s.setResetPending v).params = s.params := rfl
@[simp] theorem setResetPending_env : (s.setResetPending v).env = s.env := rfl
@[simp] theorem setResetPending_answer : (s.setResetPending v).answer = s.answer := rfl
@[simp] theorem setResetPending_draws : (s.setResetPending v).draws = s.draws := rfl
@[simp] theorem setResetPending_ep (i : EpNum) : (s.setResetPending v).ep i = s.ep i := rfl
end

section
variable (s : State) (v : Bool)
@[simp] theorem setSofPending_currentConfiguration : (s.setSofPending v).currentConfiguration = s.currentConfiguration := rfl
@[simp] theorem setSofPending_keys : (s.setSofPending v).keys = s.keys := rfl
@[simp] theorem setSofPending_idleConfig : (s.setSofPending v).idleConfig = s.idleConfig := rfl
@[simp] theorem setSofPending_idleCount : (s.setSofPending v).idleCount = s.idleCount := rfl
@[simp] theorem setSofPending_protocol : (s.setSofPending v).protocol = s.protocol := rfl
@[simp] theorem setSofPending_leds : (s.setSofPending v).leds = s.leds := rfl
@[simp] theorem setSofPending_fq : (s.setSofPending v).fq = s.fq := rfl
@[simp] theorem setSofPending_address : (s.setSofPending v).address = s.address := rfl
@[simp] theorem setSofPending_resetPending : (s.setSofPending v).resetPending = s.resetPending := rfl
@[simp] theorem setSofPending_sofPending : (s.setSofPending v).sofPending = v := rfl
@[simp] theorem setSofPending_setupPending : (s.setSofPending v).setupPending = s.setupPending := rfl
@[simp] theorem setSofPending_setupBuf : (s.setSofPending v).setupBuf = s.setupBuf := rfl
@[simp] theorem setSofPending_ctl : (s.setSofPending v).ctl = s.ctl := rfl
@[simp] theorem setSofPending_eps : (s.setSofPending v).eps = s.eps := rfl
@[simp] theorem setSofPending_setupIe : (s.setSofPending v).setupIe = s.setupIe := rfl
@[simp] theorem setSofPending_lastStall : (s.setSofPending v).lastStall = s.lastStall := rfl
@[simp] theorem setSofPending_rom : (s.setSofPending v).rom = s.rom := rfl
@[simp] theorem setSofPending_params : (s.setSofPending v).params = s.params := rfl
@[simp] theorem setSofPending_env : (s.setSofPending v).env = s.env := rfl
@[simp] theorem setSofPending_answer : (s.setSofPending v).answer = s.answer := rfl
@[simp] theorem setSofPending_draws : (s.setSofPending v).draws = s.draws := rfl
@[simp] theorem setSofPending_ep (i : EpNum) : (s.setSofPending v).ep i = s.ep i := rfl
end

section
variable (s : State) (v : Bool)
@[simp] theorem setSetupPending_currentConfiguration : (s.setSetupPending v).currentConfiguration = s.currentConfiguration := rfl
@[simp] theorem setSetupPending_keys : (s.setSetupPending v).keys = s.keys := rfl
@[simp] theorem setSetupPending_idleConfig : (s.setSetupPending v).idleConfig = s.idleConfig := rfl
@[simp] theorem setSetupPending_idleCount : (s.setSetupPending v).idleCount = s.idleCount := rfl
@[simp] theorem setSetupPending_protocol : (s.setSetupPending v).protocol = s.protocol := rfl
@[simp] theorem setSetupPending_leds : (s.setSetupPending v).leds = s.leds := rfl
@[simp] theorem setSetupPending_fq : (s.setSetupPending v).fq = s.fq := rfl
@[simp] theorem setSetupPending_address : (s.setSetupPending v).address = s.address := rfl
@[simp] theorem setSetupPending_resetPending : (s.setSetupPending v).resetPending = s.resetPending := rfl
@[simp] theorem setSetupPending_sofPending : (s.setSetupPending v).sofPending = s.sofPending := rfl
@[simp] theorem setSetupPending_setupPending : (s.setSetupPending v).setupPending = v := rfl
@[simp] theorem setSetupPending_setupBuf : (s.setSetupPending v).setupBuf = s.setupBuf := rfl
@[simp] theorem setSetupPending_ctl : (s.setSetupPending v).ctl = s.ctl := rfl
@[simp] theorem setSetupPending_eps : (s.setSetupPending v).eps = s.eps := rfl
@[simp] theorem setSetupPending_setupIe : (s.setSetupPending v).setupIe = s.setupIe := rfl
@[simp] theorem setSetupPending_lastStall : (s.setSetupPending v).lastStall = s.lastStall := rfl
@[simp] theorem setSetupPending_rom : (s.setSetupPending v).rom = s.rom := rfl
@[simp] theorem setSetupPending_params : (s.setSetupPending v).params = s.params := rfl
@[simp] theorem setSetupPending_env : (s.setSetupPending v).env = s.env := rfl
@[simp] theorem setSetupPending_answer : (s.setSetupPending v).answer = s.answer := rfl
@[simp] theorem setSetupPending_draws : (s.setSetupPending v).draws = s.draws := rfl
@[simp] theorem setSetupPending_ep (i : EpNum) : (s.setSetupPending v).ep i = s.ep i := rfl
end

section
variable (s : State) (v : SetupPacket)
@[simp] theorem setSetupBuf_currentConfiguration : (s.setSetupBuf v).currentConfiguration = s.currentConfiguration := rfl
@[simp] theorem setSetupBuf_keys : (s.setSetupBuf v).keys = s.keys := rfl
@[simp] theorem setSetupBuf_idleConfig : (s.setSetupBuf v).idleConfig = s.idleConfig := rfl
@[simp] theorem setSetupBuf_idleCount : (s.setSetupBuf v).idleCount = s.idleCount := rfl
@[simp] theorem setSetupBuf_protocol : (s.setSetupBuf v).protocol = s.protocol := rfl
@[simp] theorem setSetupBuf_leds : (s.setSetupBuf v).leds = s.leds := rfl
@[simp] theorem setSetupBuf_fq : (s.setSetupBuf v).fq = s.fq := rfl
@[simp] theorem setSetupBuf_address : (s.setSetupBuf v).address = s.address := rfl
@[simp] theorem setSetupBuf_resetPending : (s.setSetupBuf v).resetPending = s.resetPending := rfl
@[simp] theorem setSetupBuf_sofPending : (s.setSetupBuf v).sofPending = s.sofPending := rfl
@[simp] theorem setSetupBuf_setupPending : (s.setSetupBuf v).setupPending = s.setupPending := rfl
@[simp] theorem setSetupBuf_setupBuf : (s.setSetupBuf v).setupBuf = v := rfl
@[simp] theorem setSetupBuf_ctl : (s.setSetupBuf v).ctl = s.ctl := rfl
@[simp] theorem setSetupBuf_eps : (s.setSetupBuf v).eps = s.eps := rfl
@[simp] theorem setSetupBuf_setupIe : (s.setSetupBuf v).setupIe = s.setupIe := rfl
@[simp] theorem setSetupBuf_lastStall : (s.setSetupBuf v).lastStall = s.lastStall := rfl
@[simp] theorem setSetupBuf_rom : (s.setSetupBuf v).rom = s.rom := rfl
@[simp] theorem setSetupBuf_params : (s.setSetupBuf v).params = s.params := rfl
@[simp] theorem setSetupBuf_env : (s.setSetupBuf v).env = s.env := rfl
@[simp] theorem setSetupBuf_answer : (s.setSetupBuf v).answer = s.answer := rfl
@[simp] theorem setSetupBuf_draws : (s.setSetupBuf v).draws = s.draws := rfl
@[simp] theorem setSetupBuf_ep (i : EpNum) : (s.setSetupBuf v).ep i = s.ep i := rfl
end

section
variable (s : State) (v : Ctl)
@[simp] theorem setCtl_currentConfiguration : (s.setCtl v).currentConfiguration = s.currentConfiguration := rfl
@[simp] theorem setCtl_keys : (s.setCtl v).keys = s.keys := rfl
@[simp] theorem setCtl_idleConfig : (s.setCtl v).idleConfig = s.idleConfig := rfl
@[simp] theorem setCtl_idleCount : (s.setCtl v).idleCount = s.idleCount := rfl
@[simp] theorem setCtl_protocol : (s.setCtl v).protocol = s.protocol := rfl
@[simp] theorem setCtl_leds : (s.setCtl v).leds = s.leds := rfl
@[simp] theorem setCtl_fq : (s.setCtl v).fq = s.fq := rfl
@[simp] theorem setCtl_address : (s.setCtl v).address = s.address := rfl
@[simp] theorem setCtl_resetPending : (s.setCtl v).resetPending = s.resetPending := rfl
@[simp] theorem setCtl_sofPending : (s.setCtl v).sofPending = s.sofPending := rfl
@[simp] theorem setCtl_setupPending : (s.setCtl v).setupPending = s.setupPending := rfl
@[simp] theorem setCtl_setupBuf : (s.setCtl v).setupBuf = s.setupBuf := rfl
@[simp] theorem setCtl_ctl : (s.setCtl v).ctl = v := rfl
@[simp] theorem setCtl_eps : (s.setCtl v).eps = s.eps := rfl
@[simp] theorem setCtl_setupIe : (s.setCtl v).setupIe = s.setupIe := rfl
@[simp] theorem setCtl_lastStall : (s.setCtl v).lastStall = s.lastStall := rfl
@[simp] theorem setCtl_rom : (s.setCtl v).rom = s.rom := rfl
@[simp] theorem setCtl_params : (s.setCtl v).params = s.params := rfl
@[simp] theorem setCtl_env : (s.setCtl v).env = s.env := rfl
@[simp] theorem setCtl_answer : (s.setCtl v).answer = s.answer := rfl
@[simp] theorem setCtl_draws : (s.setCtl v).draws = s.draws := rfl
@[simp] theorem setCtl_ep (i : EpNum) : (s.setCtl v).ep i = s.ep i := rfl
end

section
variable (s : State) (v : Endpoints)
@[simp] theorem setEps_currentConfiguration : (s.setEps v).currentConfiguration = s.currentConfiguration := rfl
@[simp] theorem setEps_keys : (s.setEps v).keys = s.keys := rfl
@[simp] theorem setEps_idleConfig : (s.setEps v).idleConfig = s.idleConfig := rfl
@[simp] theorem setEps_idleCount : (s.setEps v).idleCount = s.idleCount := rfl
@[simp] theorem setEps_protocol : (s.setEps v).protocol = s.protocol := rfl
@[simp] theorem setEps_leds : (s.setEps v).leds = s.leds := rfl
@[simp] theorem setEps_fq : (s.setEps v).fq = s.fq := rfl
@[simp] theorem setEps_address : (s.setEps v).address = s.address := rfl
@[simp] theorem setEps_resetPending : (s.setEps v).resetPending = s.resetPending := rfl
@[simp] theorem setEps_sofPending : (s.setEps v).sofPending = s.sofPending := rfl
@[simp] theorem setEps_setupPending : (s.setEps v).setupPending = s.setupPending := rfl
@[simp] theorem setEps_setupBuf : (s.setEps v).setupBuf = s.setupBuf := rfl
@[simp] theorem setEps_ctl : (s.setEps v).ctl = s.ctl := rfl
@[simp] theorem setEps_eps : (s.setEps v).eps = v := rfl
@[simp] theorem setEps_setupIe : (s.setEps v).setupIe = s.setupIe := rfl
@[simp] theorem setEps_lastStall : (s.setEps v).lastStall = s.lastStall := rfl
@[simp] theorem setEps_rom : (s.setEps v).rom = s.rom := rfl
@[simp] theorem setEps_params : (s.setEps v).params = s.params := rfl
@[simp] theorem setEps_env : (s.setEps v).env = s.env := rfl
@[simp] theorem setEps_answer : (s.setEps v).answer = s.answer := rfl
@[simp] theorem setEps_draws : (s.setEps v).draws = s.draws := rfl
@[simp] theorem setEps_ep (i : EpNum) : (s.setEps v).ep i = v.get i := rfl
end

section
variable (s : State) (v : Bool)
@[simp] theorem setSetupIe_currentConfiguration : (s.setSetupIe v).currentConfiguration = s.currentConfiguration := rfl
@[simp] theorem setSetupIe_keys : (s.setSetupIe v).keys = s.keys := rfl
@[simp] theorem setSetupIe_idleConfig : (s.setSetupIe v).idleConfig = s.idleConfig := rfl
@[simp] theorem setSetupIe_idleCount : (s.setSetupIe v).idleCount = s.idleCount := rfl
@[simp] theorem setSetupIe_protocol : (s.setSetupIe v).protocol = s.protocol := rfl
@[simp] theorem setSetupIe_leds : (s.setSetupIe v).leds = s.leds := rfl
@[simp] theorem setSetupIe_fq : (s.setSetupIe v).fq = s.fq := rfl
@[simp] theorem setSetupIe_address : (s.setSetupIe v).address = s.address := rfl
@[simp] theorem setSetupIe_resetPending : (s.setSetupIe v).resetPending = s.resetPending := rfl
@[simp] theorem setSetupIe_sofPending : (s.setSetupIe v).sofPending = s.sofPending := rfl
@[simp] theorem setSetupIe_setupPending : (s.setSetupIe v).setupPending = s.setupPending := rfl
@[simp] theorem setSetupIe_setupBuf : (s.setSetupIe v).setupBuf = s.setupBuf := rfl
@[simp] theorem setSetupIe_ctl : (s.setSetupIe v).ctl = s.ctl := rfl
@[simp] theorem setSetupIe_eps : (s.setSetupIe v).eps = s.eps := rfl
@[simp] theorem setSetupIe_setupIe : (s.setSetupIe v).setupIe = v := rfl
@[simp] theorem setSetupIe_lastStall : (s.setSetupIe v).lastStall = s.lastStall := rfl
@[simp] theorem setSetupIe_rom : (s.setSetupIe v).rom = s.rom := rfl
@[simp] theorem setSetupIe_params : (s.setSetupIe v).params = s.params := rfl
@[simp] theorem setSetupIe_env : (s.setSetupIe v).env = s.env := rfl
@[simp] theorem setSetupIe_answer : (s.setSetupIe v).answer = s.answer := rfl
@[simp] theorem setSetupIe_draws : (s.setSetupIe v).draws = s.draws := rfl
@[simp] theorem setSetupIe_ep (i : EpNum) : (s.setSetupIe v).ep i = s.ep i := rfl
end

section
variable (s : State) (v : Option StallCause)
@[simp] theorem setLastStall_currentConfiguration : (s.setLastStall v).currentConfiguration = s.currentConfiguration := rfl
@[simp] theorem setLastStall_keys : (s.setLastStall v).keys = s.keys := rfl
@[simp] theorem setLastStall_idleConfig : (s.setLastStall v).idleConfig = s.idleConfig := rfl
@[simp] theorem setLastStall_idleCount : (s.setLastStall v).idleCount = s.idleCount := rfl
@[simp] theorem setLastStall_protocol : (s.setLastStall v).protocol = s.protocol := rfl
@[simp] theorem setLastStall_leds : (s.setLastStall v).leds = s.leds := rfl
@[simp] theorem setLastStall_fq : (s.setLastStall v).fq = s.fq := rfl
@[simp] theorem setLastStall_address : (s.setLastStall v).address = s.address := rfl
@[simp] theorem setLastStall_resetPending : (s.setLastStall v).resetPending = s.resetPending := rfl
@[simp] theorem setLastStall_sofPending : (s.setLastStall v).sofPending = s.sofPending := rfl
@[simp] theorem setLastStall_setupPending : (s.setLastStall v).setupPending = s.setupPending := rfl
@[simp] theorem setLastStall_setupBuf : (s.setLastStall v).setupBuf = s.setupBuf := rfl
@[simp] theorem setLastStall_ctl : (s.setLastStall v).ctl = s.ctl := rfl
@[simp] theorem setLastStall_eps : (s.setLastStall v).eps = s.eps := rfl
@[simp] theorem setLastStall_setupIe : (s.setLastStall v).setupIe = s.setupIe := rfl
@[simp] theorem setLastStall_lastStall : (s.setLastStall v).lastStall = v := rfl
@[simp] theorem setLastStall_rom : (s.setLastStall v).rom = s.rom := rfl
@[simp] theorem setLastStall_params : (s.setLastStall v).params = s.params := rfl
@[simp] theorem setLastStall_env : (s.setLastStall v).env = s.env := rfl
@[simp] theorem setLastStall_answer : (s.setLastStall v).answer = s.answer := rfl
@[simp] theorem setLastStall_draws : (s.setLastStall v).draws = s.draws := rfl
@[simp] theorem setLastStall_ep (i : EpNum) : (s.setLastStall v).ep i = s.ep i := rfl
end

section
variable (s : State) (v : List Move)
@[simp] theorem setEnv_currentConfiguration : (s.setEnv v).currentConfiguration = s.currentConfiguration := rfl
@[simp] theorem setEnv_keys : (s.setEnv v).keys = s.keys := rfl
@[simp] theorem setEnv_idleConfig : (s.setEnv v).idleConfig = s.idleConfig := rfl
@[simp] theorem setEnv_idleCount : (s.setEnv v).idleCount = s.idleCount := rfl
@[simp] theorem setEnv_protocol : (s.setEnv v).protocol = s.protocol := rfl
@[simp] theorem setEnv_leds : (s.setEnv v).leds = s.leds := rfl
@[simp] theorem setEnv_fq : (s.setEnv v).fq = s.fq := rfl
@[simp] theorem setEnv_address : (s.setEnv v).address = s.address := rfl
@[simp] theorem setEnv_resetPending : (s.setEnv v).resetPending = s.resetPending := rfl
@[simp] theorem setEnv_sofPending : (s.setEnv v).sofPending = s.sofPending := rfl
@[simp] theorem setEnv_setupPending : (s.setEnv v).setupPending = s.setupPending := rfl
@[simp] theorem setEnv_setupBuf : (s.setEnv v).setupBuf = s.setupBuf := rfl
@[simp] theorem setEnv_ctl : (s.setEnv v).ctl = s.ctl := rfl
@[simp] theorem setEnv_eps : (s.setEnv v).eps = s.eps := rfl
@[simp] theorem setEnv_setupIe : (s.setEnv v).setupIe = s.setupIe := rfl
@[simp] theorem setEnv_lastStall : (s.setEnv v).lastStall = s.lastStall := rfl
@[simp] theorem setEnv_rom : (s.setEnv v).rom = s.rom := rfl
@[simp] theorem setEnv_params : (s.setEnv v).params = s.params := rfl
@[simp] theorem setEnv_env : (s.setEnv v).env = v := rfl
@[simp] theorem setEnv_answer : (s.setEnv v).answer = s.answer := rfl
@[simp] theorem setEnv_draws : (s.setEnv v).draws = s.draws := rfl
@[simp] theorem setEnv_ep (i : EpNum) : (s.setEnv v).ep i = s.ep i := rfl
end

section
variable (s : State) (v : Answer)
@[simp] theorem setAnswer_currentConfiguration : (s.setAnswer v).currentConfiguration = s.currentConfiguration := rfl
@[simp] theorem setAnswer_keys : (s.setAnswer v).keys = s.keys := rfl
@[simp] theorem setAnswer_idleConfig : (s.setAnswer v).idleConfig = s.idleConfig := rfl
@[simp] theorem setAnswer_idleCount : (s.setAnswer v).idleCount = s.idleCount := rfl
@[simp] theorem setAnswer_protocol : (s.setAnswer v).protocol = s.protocol := rfl
@[simp] theorem setAnswer_leds : (s.setAnswer v).leds = s.leds := rfl
@[simp] theorem setAnswer_fq : (s.setAnswer v).fq = s.fq := rfl
@[simp] theorem setAnswer_address : (s.setAnswer v).address = s.address := rfl
@[simp] theorem setAnswer_resetPending : (s.setAnswer v).resetPending = s.resetPending := rfl
@[simp] theorem setAnswer_sofPending : (s.setAnswer v).sofPending = s.sofPending := rfl
@[simp] theorem setAnswer_setupPending : (s.setAnswer v).setupPending = s.setupPending := rfl
@[simp] theorem setAnswer_setupBuf : (s.setAnswer v).setupBuf = s.setupBuf := rfl
@[simp] theorem setAnswer_ctl : (s.setAnswer v).ctl = s.ctl := rfl
@[simp] theorem setAnswer_eps : (s.setAnswer v).eps = s.eps := rfl
@[simp] theorem setAnswer_setupIe : (s.setAnswer v).setupIe = s.setupIe := rfl
@[simp] theorem setAnswer_lastStall : (s.setAnswer v).lastStall = s.lastStall := rfl
@[simp] theorem setAnswer_rom : (s.setAnswer v).rom = s.rom := rfl
@[simp] theorem setAnswer_params : (s.setAnswer v).params = s.params := rfl
@[simp] theorem setAnswer_env : (s.setAnswer v).env = s.env := rfl
@[simp] theorem setAnswer_answer : (s.setAnswer v).answer = v := rfl
@[simp] theorem setAnswer_draws : (s.setAnswer v).draws = s.draws := rfl
@[simp] theorem setAnswer_ep (i : EpNum) : (s.setAnswer v).ep i = s.ep i := rfl
end

section
variable (s : State) (v : Nat)
@[simp] theorem setDraws_currentConfiguration : (s.setDraws v).currentConfiguration = s.currentConfiguration := rfl
@[simp] theorem setDraws_keys : (s.setDraws v).keys = s.keys := rfl
@[simp] theorem setDraws_idleConfig : (s.setDraws v).idleConfig = s.idleConfig := rfl
@[simp] theorem setDraws_idleCount : (s.setDraws v).idleCount = s.idleCount := rfl
@[simp] theorem setDraws_protocol : (s.setDraws v).protocol = s.protocol := rfl
@[simp] theorem setDraws_leds : (s.setDraws v).leds = s.leds := rfl
@[simp] theorem setDraws_fq : (s.setDraws v).fq = s.fq := rfl
@[simp] theorem setDraws_address : (s.setDraws v).address = s.address := rfl
@[simp] theorem setDraws_resetPending : (s.setDraws v).resetPending = s.resetPending := rfl
@[simp] theorem setDraws_sofPending : (s.setDraws v).sofPending = s.sofPending := rfl
@[simp] theorem setDraws_setupPending : (s.setDraws v).setupPending = s.setupPending := rfl
@[simp] theorem setDraws_setupBuf : (s.setDraws v).setupBuf = s.setupBuf := rfl
@[simp] theorem setDraws_ctl : (s.setDraws v).ctl = s.ctl := rfl
@[simp] theorem setDraws_eps : (s.setDraws v).eps = s.eps := rfl
@[simp] theorem setDraws_setupIe : (s.setDraws v).setupIe = s.setupIe := rfl
@[simp] theorem setDraws_lastStall : (s.setDraws v).lastStall = s.lastStall := rfl
@[simp] theorem setDraws_rom : (s.setDraws v).rom = s.rom := rfl
@[simp] theorem setDraws_params : (s.setDraws v).params = s.params := rfl
@[simp] theorem setDraws_env : (s.setDraws v).env = s.env := rfl
@[simp] theorem setDraws_answer : (s.setDraws v).answer = s.answer := rfl
@[simp] theorem setDraws_draws : (s.setDraws v).draws = v := rfl
@[simp] theorem setDraws_ep (i : EpNum) : (s.setDraws v).ep i = s.ep i := rfl
end

section
variable (s : State) (i : EpNum) (e : Endpoint)
@[simp] theorem setEp_currentConfiguration : (s.setEp i e).currentConfiguration = s.currentConfiguration := rfl
@[simp] theorem setEp_keys : (s.setEp i e).keys = s.keys := rfl
@[simp] theorem setEp_idleConfig : (s.setEp i e).idleConfig = s.idleConfig := rfl
@[simp] theorem setEp_idleCount : (s.setEp i e).idleCount = s.idleCount := rfl
@[simp] theorem setEp_protocol : (s.setEp i e).protocol = s.protocol := rfl
@[simp] theorem setEp_leds : (s.setEp i e).leds = s.leds := rfl
@[simp] theorem setEp_fq : (s.setEp i e).fq = s.fq := rfl
@[simp] theorem setEp_address : (s.setEp i e).address = s.address := rfl
@[simp] theorem setEp_resetPending : (s.setEp i e).resetPending = s.resetPending := rfl
@[simp] theorem setEp_sofPending : (s.setEp i e).sofPending = s.sofPending := rfl
@[simp] theorem setEp_setupPending : (s.setEp i e).setupPending = s.setupPending := rfl
@[simp] theorem setEp_setupBuf : (s.setEp i e).setupBuf = s.setupBuf := rfl
@[simp] theorem setEp_ctl : (s.setEp i e).ctl = s.ctl := rfl
@[simp] theorem setEp_setupIe : (s.setEp i e).setupIe = s.setupIe := rfl
@[simp] theorem setEp_lastStall : (s.setEp i e).lastStall = s.lastStall := rfl
@[simp] theorem setEp_rom : (s.setEp i e).rom = s.rom := rfl
@[simp] theorem setEp_params : (s.setEp i e).params = s.params := rfl
@[simp] theorem setEp_env : (s.setEp i e).env = s.env := rfl
@[simp] theorem setEp_answer : (s.setEp i e).answer = s.answer := rfl
@[simp] theorem setEp_draws : (s.setEp i e).draws = s.draws := rfl
@[simp] theorem setEp_ep_same : (s.setEp i e).ep i = e := by cases i <;> rfl
theorem setEp_ep_of_ne {j : EpNum} (h : j ≠ i) : (s.setEp i e).ep j = s.ep j := by
  cases i <;> cases j <;> first | rfl | exact absurd rfl h
theorem setEp_ep (j : EpNum) : (s.setEp i e).ep j = if j = i then e else s.ep j := by
  cases i <;> cases j <;> rfl
end

end Sys2Proof.Machine.State

namespace Sys2Proof.Machine

@[simp] theorem appNum_ne_e0 (a : AppEp) : appNum a ≠ .e0 := by cases a <;> decide

theorem appNum_inj {a b : AppEp} (h : appNum a = appNum b) : a = b := by
  cases a <;> cases b <;> first | rfl | cases h

/-- An endpoint number is 0 or that of a slot. -/
theorem epNum_cases (i : EpNum) : i = .e0 ∨ ∃ a, i = appNum a := by
  cases i
  · exact .inl rfl
  · exact .inr ⟨.ep1, rfl⟩
  · exact .inr ⟨.ep2, rfl⟩
  · exact .inr ⟨.ep3, rfl⟩
  · exact .inr ⟨.ep4, rfl⟩

/-- Two endpoint files that read the same at every endpoint are the same. -/
theorem endpoints_ext {v w : Endpoints} (h : ∀ i, v.get i = w.get i) : v = w := by
  have h0 := h .e0; have h1 := h .e1; have h2 := h .e2; have h3 := h .e3; have h4 := h .e4
  cases v; cases w; simp_all [Endpoints.get]

@[simp] theorem mapApp_get_e0 (v : Endpoints) (f : AppEp → Endpoint → Endpoint) :
    (v.mapApp f).get .e0 = v.get .e0 := rfl

@[simp] theorem mapApp_get_app (v : Endpoints) (f : AppEp → Endpoint → Endpoint) (a : AppEp) :
    (v.mapApp f).get (appNum a) = f a (v.get (appNum a)) := by cases a <;> rfl

end Sys2Proof.Machine
end

