-- ==== Sys2Proof/Laws/Decode.lean ====
section
/-! SUPPORT. The packet's bytes, fields and word; a row of the opcode table byte by byte; what each
outcome of `decode` says of the packet. -/
namespace Sys2Proof
open Machine

theorem word_ofWord (w : BitVec 64) : (SetupPacket.ofWord w).word = w := by
  apply BitVec.eq_of_getLsbD_eq
  intro k hk
  interval_cases k <;> simp [SetupPacket.ofWord, SetupPacket.word]

theorem ofWord_word (p : SetupPacket) : SetupPacket.ofWord p.word = p := by
  cases p
  simp only [SetupPacket.ofWord, SetupPacket.word, SetupPacket.mk.injEq]
  refine ⟨?_, ?_, ?_, ?_, ?_, ?_, ?_, ?_⟩ <;>
  · apply BitVec.eq_of_getLsbD_eq
    intro k hk
    interval_cases k <;> simp

/-- A packet is the word of its bytes and no other's (30_encoding.md R71). -/
theorem word_inj_iff (p q : SetupPacket) : p.word = q.word ↔ p = q :=
  ⟨fun h => by rw [← ofWord_word p, h, ofWord_word], congrArg _⟩

@[simp] theorem ofBytes_bytes (p : SetupPacket) : SetupPacket.ofBytes p.bytes = some p := rfl

@[simp] theorem bytes_length (p : SetupPacket) : p.bytes.length = 8 := rfl

/-- Only 8 bytes are a packet (30_encoding.md R70, R82). -/
theorem ofBytes_eq_none_iff (bs : List Byte) : SetupPacket.ofBytes bs = none ↔ bs.length ≠ 8 := by
  match bs with
  | [] | [_] | [_, _] | [_, _, _] | [_, _, _, _] | [_, _, _, _, _] | [_, _, _, _, _, _]
  | [_, _, _, _, _, _, _] => simp [SetupPacket.ofBytes]
  | [_, _, _, _, _, _, _, _] => simp [SetupPacket.ofBytes]
  | _ :: _ :: _ :: _ :: _ :: _ :: _ :: _ :: _ :: _ => simp [SetupPacket.ofBytes]

/-- Two words are the same when their packets are. -/
theorem ofWord_inj_iff (v w : BitVec 64) : SetupPacket.ofWord v = SetupPacket.ofWord w ↔ v = w :=
  ⟨fun h => by rw [← word_ofWord v, h, word_ofWord], congrArg _⟩

/-- Masking a word is masking its bytes. -/
theorem ofWord_and (v w : BitVec 64) : SetupPacket.ofWord (v &&& w) =
    ⟨(SetupPacket.ofWord v).b0 &&& (SetupPacket.ofWord w).b0, (SetupPacket.ofWord v).b1 &&& (SetupPacket.ofWord w).b1,
      (SetupPacket.ofWord v).b2 &&& (SetupPacket.ofWord w).b2, (SetupPacket.ofWord v).b3 &&& (SetupPacket.ofWord w).b3,
      (SetupPacket.ofWord v).b4 &&& (SetupPacket.ofWord w).b4, (SetupPacket.ofWord v).b5 &&& (SetupPacket.ofWord w).b5,
      (SetupPacket.ofWord v).b6 &&& (SetupPacket.ofWord w).b6, (SetupPacket.ofWord v).b7 &&& (SetupPacket.ofWord w).b7⟩ := by
  simp [SetupPacket.ofWord, BitVec.extractLsb'_and]

/-- A row matches a packet byte by byte (30_encoding.md R71). -/
theorem selects_iff (r : Row) (p : SetupPacket) :
    r.selects p ↔ (⟨p.b0 &&& (SetupPacket.ofWord r.mask).b0, p.b1 &&& (SetupPacket.ofWord r.mask).b1,
      p.b2 &&& (SetupPacket.ofWord r.mask).b2, p.b3 &&& (SetupPacket.ofWord r.mask).b3,
      p.b4 &&& (SetupPacket.ofWord r.mask).b4, p.b5 &&& (SetupPacket.ofWord r.mask).b5,
      p.b6 &&& (SetupPacket.ofWord r.mask).b6, p.b7 &&& (SetupPacket.ofWord r.mask).b7⟩ : SetupPacket) =
        SetupPacket.ofWord r.pattern := by
  unfold Row.selects
  conv_lhs => rw [← ofWord_inj_iff, ofWord_and, ofWord_word]

@[simp] theorem rt_ofFields (rt rq : Byte) (val idx len : U16) : (SetupPacket.ofFields rt rq val idx len).rt = rt := rfl

@[simp] theorem rq_ofFields (rt rq : Byte) (val idx len : U16) : (SetupPacket.ofFields rt rq val idx len).rq = rq := rfl

theorem le16Of_extract (v : U16) : le16Of (v.extractLsb' 0 8) (v.extractLsb' 8 8) = v := by
  apply BitVec.eq_of_getLsbD_eq
  intro k hk
  interval_cases k <;> simp [le16Of]

@[simp] theorem val_ofFields (rt rq : Byte) (val idx len : U16) : (SetupPacket.ofFields rt rq val idx len).val = val :=
  le16Of_extract val

@[simp] theorem idx_ofFields (rt rq : Byte) (val idx len : U16) : (SetupPacket.ofFields rt rq val idx len).idx = idx :=
  le16Of_extract idx

@[simp] theorem len_ofFields (rt rq : Byte) (val idx len : U16) : (SetupPacket.ofFields rt rq val idx len).len = len :=
  le16Of_extract len

end Sys2Proof
end

