-- ==== Sys2Proof/Laws/Memory.lean ====
section
/-! SUPPORT. The laws of the descriptor ROM: what a read gives, the canonical form of the image, and
that the block's reads stay inside it (20_memory.md R54 to R56, 43_descriptor_engine.md R137). -/
namespace Sys2Proof.Machine

theorem readBytes_eq_some_iff (m : List Host.Cell) :
    ∀ (n a : Nat) (bs : List Byte),
      readBytes m a n = some bs ↔ bs.length = n ∧ ∀ k, k < n → readCell m (a + k) = bs[k]? := by
  intro n
  induction n with
  | zero =>
    intro a bs
    constructor
    · intro h
      cases h
      exact ⟨rfl, fun k hk => absurd hk (by omega)⟩
    · rintro ⟨h, -⟩
      rw [List.eq_nil_of_length_eq_zero h]
      rfl
  | succ n ih =>
    intro a bs
    constructor
    · intro h
      unfold readBytes at h
      split at h
      next b cs hb hcs =>
        obtain rfl : b :: cs = bs := by simpa using h
        obtain ⟨hl, hk⟩ := (ih _ _).1 hcs
        refine ⟨by simp [hl], fun k hkn => ?_⟩
        cases k with
        | zero => simpa using hb
        | succ k =>
          have := hk k (by omega)
          rw [show a + 1 + k = a + (k + 1) by omega] at this
          simpa using this
      next => cases h
    · rintro ⟨hl, hk⟩
      obtain ⟨b, cs, rfl⟩ : ∃ b cs, bs = b :: cs := by
        cases bs with
        | nil => simp at hl
        | cons b cs => exact ⟨b, cs, rfl⟩
      have hb : readCell m a = some b := by simpa using hk 0 (by omega)
      have hcs : readBytes m (a + 1) n = some cs := (ih _ _).2
        ⟨by simpa using hl, fun k hkn => by
          have := hk (k + 1) (by omega)
          rw [show a + (k + 1) = a + 1 + k by omega] at this
          simpa using this⟩
      simp [readBytes, hb, hcs]

/-- A read succeeds where every cell of its range is listed. -/
theorem readBytes_isSome (m : List Host.Cell) :
    ∀ (n a : Nat), (∀ k, k < n → (readCell m (a + k)).isSome = true) → ∃ bs, readBytes m a n = some bs := by
  intro n
  induction n with
  | zero => exact fun a _ => ⟨[], rfl⟩
  | succ n ih =>
    intro a h
    obtain ⟨b, hb⟩ := Option.isSome_iff_exists.1 (h 0 (by omega))
    obtain ⟨bs, hbs⟩ := ih (a + 1) fun k hk => by
      have := h (k + 1) (by omega)
      rwa [show a + (k + 1) = a + 1 + k by omega] at this
    exact ⟨b :: bs, by simp only [Nat.add_zero] at hb; simp [readBytes, hb, hbs]⟩

theorem readCell_cellsFrom (bs : List Byte) :
    ∀ a k, readCell (cellsFrom a bs) k = if a ≤ k then bs[k - a]? else none := by
  induction bs with
  | nil => intro a k; simp [cellsFrom, readCell]
  | cons b bs ih =>
    intro a k
    simp only [cellsFrom, readCell, ih]
    rcases Nat.lt_trichotomy k a with h | rfl | h
    · rw [if_neg (by omega), if_neg (by omega), if_neg (by omega)]
    · simp
    · rw [if_neg (by omega), if_pos (by omega), if_pos (by omega),
        show k - a = (k - (a + 1)) + 1 by omega, List.getElem?_cons_succ]

/-- Consecutive cells are in canonical form. -/
theorem memWf_cellsFrom (bs : List Byte) : ∀ a, memWf (cellsFrom a bs) = true := by
  induction bs with
  | nil => intro a; rfl
  | cons b bs ih =>
    intro a
    cases bs with
    | nil => rfl
    | cons c cs =>
      have := ih (a + 1)
      simp only [cellsFrom] at this ⊢
      simp [memWf, this]

@[simp] theorem deviceDescriptor_length (p : Params) (d : DescParams) : (deviceDescriptor p d).length = 18 := rfl

@[simp] theorem configurationBundle_length (p : Params) (d : DescParams) : (configurationBundle p d).length = 34 := rfl

@[simp] theorem romImage_length (p : Params) (d : DescParams) (rpt : List Byte) :
    (romImage p d rpt).length = rpt.length + 52 := by
  simp [romImage]; omega

@[simp] theorem rptDesc_length : Config.rptDesc.length = Config.params.rptLen := by
  simp [Config.rptDesc, Config.params]

/-- The memory at power-on is in canonical form. -/
theorem reset_rom_wf : memWf State.reset.rom = true := memWf_cellsFrom _ _

/-- `Lookup` gives only the four tables' selectors (43_descriptor_engine.md R130). -/
theorem lookup_eq_some_iff (val idx : U16) (t : DescTable) :
    lookup val idx = some t ↔ idx = 0#16 ∧
      ((val = 0x0100#16 ∧ t = .device) ∨ (val = 0x0200#16 ∧ t = .configuration) ∨
        (val = 0x2200#16 ∧ t = .report) ∨ (val = 0x2100#16 ∧ t = .hid)) := by
  unfold lookup kbdIf
  constructor
  · intro h
    split at h
    next c => obtain ⟨rfl, rfl⟩ := c; cases h; simp
    split at h
    next c => obtain ⟨rfl, rfl⟩ := c; cases h; simp
    split at h
    next c => obtain ⟨rfl, rfl⟩ := c; cases h; simp
    split at h
    next c => obtain ⟨rfl, rfl⟩ := c; cases h; simp
    cases h
  · rintro ⟨rfl, ⟨rfl, rfl⟩ | ⟨rfl, rfl⟩ | ⟨rfl, rfl⟩ | ⟨rfl, rfl⟩⟩ <;> rfl

/-- Every table ends inside the ROM (43_descriptor_engine.md R137). -/
theorem table_inside_rom (t : DescTable) (p : Params) : t.base + t.dlen p ≤ romSize p := by
  cases t <;> simp only [DescTable.base, DescTable.dlen, romSize] <;> omega

/-- `MemRead` gives the listed bytes of its range, and nothing where the range leaves the ROM or a cell is missing. -/
theorem memRead_eq_some_iff (s : State) (a n : Nat) (bs : List Byte) :
    s.memRead a n = some bs ↔
      a + n ≤ romSize s.params ∧ bs.length = n ∧ ∀ k, k < n → readCell s.rom (a + k) = bs[k]? := by
  unfold State.memRead
  split
  next h => simp [readBytes_eq_some_iff, h]
  next h => simp [h]

/-- A read of at most a table's length from its base succeeds on a loaded ROM. -/
theorem memRead_table (s : State) (t : DescTable) (n : Nat) (hn : n ≤ t.dlen s.params)
    (h : ∀ a, a < romSize s.params → (readCell s.rom a).isSome = true) : ∃ bs, s.memRead t.base n = some bs := by
  have ht := table_inside_rom t s.params
  obtain ⟨bs, hbs⟩ := readBytes_isSome s.rom n t.base fun k hk => h _ (by omega)
  exact ⟨bs, by unfold State.memRead; rw [if_pos (by omega), hbs]⟩

end Sys2Proof.Machine
end

