-- ==== Sys2Proof/Laws/Ops.lean ====
section
/-! SUPPORT. What each shared operation can do, once; and that a move reads nothing of `env`. -/
namespace Sys2Proof.Machine

@[simp] theorem Toggle.flip_flip (t : Toggle) : t.flip.flip = t := by cases t <;> rfl

@[simp] theorem report_length (k : KeyState) : k.report.length = 8 := rfl

theorem eight_le_bytes (z : EpSize) : 8 ≤ z.bytes := by cases z <;> decide

theorem banksCount_pos (b : Banks) : 0 < banksCount b := by cases b <;> decide

theorem txReady_iff (e : Endpoint) : e.txReady = true ↔ e.en = true ∧ e.txq.length < banksCount e.banks := by
  simp [Endpoint.txReady]

theorem rxReady_iff (e : Endpoint) : e.rxReady = true ↔ e.en = true ∧ e.rxq ≠ [] := by
  simp [Endpoint.rxReady]

/-- `ArmTx` appends where the endpoint is ready and the packet fits (45_endpoint_engine.md R159). -/
theorem armTx_of_ready {s : State} {i : EpNum} {xs : List Byte} (h : s.txReady i = true)
    (hl : xs.length ≤ (s.ep i).size.bytes) :
    s.armTx i xs = .ok (s.setEp i { s.ep i with txq := (s.ep i).txq ++ [xs] }) := by
  unfold State.armTx
  rw [if_neg (by simp [h]), if_neg (by omega)]

/-- All that `ArmTx` can do where it succeeds. -/
theorem armTx_ok {s t : State} {i : EpNum} {xs : List Byte} (h : s.armTx i xs = .ok t) :
    s.txReady i = true ∧ xs.length ≤ (s.ep i).size.bytes ∧
      t = s.setEp i { s.ep i with txq := (s.ep i).txq ++ [xs] } := by
  unfold State.armTx at h
  split at h
  next => cases h
  next hr =>
    split at h
    next => cases h
    next hl => exact ⟨by simpa using hr, by omega, by cases h; rfl⟩

/-- `RxRead` where a packet is held: its first byte, or a free byte of an empty one (45_endpoint_engine.md R161). -/
theorem rxRead_cons {s : State} {i : EpNum} {b : Byte} {bs : List Byte} {rest : List (List Byte)}
    (h : (s.ep i).rxq = (b :: bs) :: rest) :
    s.rxRead i = (b, s.setEp i { s.ep i with rxq := bs :: rest }) := by
  unfold State.rxRead; rw [h]

theorem rxRead_nil {s : State} {i : EpNum} {rest : List (List Byte)} (h : (s.ep i).rxq = [] :: rest) :
    s.rxRead i = (Config.freeByte s.draws, s.setDraws (s.draws + 1)) := by
  unfold State.rxRead; rw [h]; rfl

theorem resultOf_eq_next {r : Except Fault State} {t : State} : resultOf r = .next t ↔ r = .ok t := by
  cases r <;> simp [resultOf]

/-- The flush always succeeds where the keyboard endpoint is ready: a report fits every size. -/
theorem flushReport_of_ready {s : State} (h : s.txReady s.kbd = true) :
    s.flushReport = .ok (s.setEp s.kbd { s.ep s.kbd with txq := (s.ep s.kbd).txq ++ [s.keys.report] }) :=
  armTx_of_ready h (eight_le_bytes _)

/-- All that an idle tick can do (40_frame_and_reset.md R92): nothing, a count, or a report. -/
theorem idleTick_cases (s : State) :
    ((s.idleConfig = 0#8 ∨ s.txReady s.kbd = false) ∧ s.idleTick = .ok s) ∨
    (s.idleConfig ≠ 0#8 ∧ s.txReady s.kbd = true ∧ s.idleCount + 1#8 ≠ s.idleConfig ∧
      s.idleTick = .ok (s.setIdleCount (s.idleCount + 1#8))) ∨
    (s.idleConfig ≠ 0#8 ∧ s.txReady s.kbd = true ∧ s.idleCount + 1#8 = s.idleConfig ∧
      s.idleTick = .ok ((s.setIdleCount 0).setEp s.kbd
        { s.ep s.kbd with txq := (s.ep s.kbd).txq ++ [s.keys.report] })) := by
  unfold State.idleTick
  by_cases h : s.idleConfig ≠ 0#8 ∧ s.txReady s.kbd = true
  · rw [if_pos h]
    by_cases hc : s.idleCount + 1#8 = s.idleConfig
    · rw [if_pos hc]
      exact .inr (.inr ⟨h.1, h.2, hc, flushReport_of_ready (s := s.setIdleCount 0) h.2⟩)
    · rw [if_neg hc]
      exact .inr (.inl ⟨h.1, h.2, hc, rfl⟩)
  · rw [if_neg h]
    refine .inl ⟨?_, rfl⟩
    by_cases hz : s.idleConfig = 0#8
    · exact .inl hz
    · exact .inr (by simpa [hz] using h)

theorem idleTick_ok (s : State) : ∃ t, s.idleTick = .ok t := by
  rcases idleTick_cases s with ⟨_, h⟩ | ⟨_, _, _, h⟩ | ⟨_, _, _, h⟩ <;> exact ⟨_, h⟩

theorem sofWork_ok (s : State) : ∃ t, s.sofWork = .ok t := by
  unfold State.sofWork
  dsimp only
  split
  · split
    · exact idleTick_ok _
    · exact ⟨_, rfl⟩
  · exact ⟨_, rfl⟩

/-- The frame handler never meets a model fault. -/
theorem frameStep_ok (s : State) : ∃ t, s.frameStep = .ok t := by
  unfold State.frameStep
  generalize (if s.resetPending = true then s.resetWork else s) = t
  dsimp only
  split
  · exact sofWork_ok t
  · exact ⟨t, rfl⟩

/-- What a token is taken by (45_endpoint_engine.md R156). -/
theorem accepts_eq_some_iff (s : State) (addr : U7) (e : BitVec 4) (i : EpNum) :
    s.accepts addr e = some i ↔ epOfToken e = some i ∧ addr = s.address ∧ (s.ep i).en = true := by
  unfold State.accepts
  split
  next j hj =>
    rw [hj]
    split
    next h => constructor
              · rintro h'; cases h'; exact ⟨rfl, h⟩
              · rintro ⟨h', -⟩; exact h'
    next h => constructor
              · intro h'; cases h'
              · rintro ⟨h', h''⟩; cases h'; exact absurd h'' h
  next hj => simp [hj]

/-- One step is the next move's, on the state without it. -/
theorem step_eq (s : State) : step s = runMove s.nextMove s.popMove := rfl

/-- A latched packet is decoded and executed by the very next step. -/
theorem step_withSetup (s : State) (p : SetupPacket) :
    step (s.withSetup p) =
      exec (decode p) (((s.setSetupBuf p).setSetupPending false).setCtl .setupReceived) := by
  have hf : ((s.withSetup p).popMove).frameEnabled = false := by
    simp [State.withSetup, State.popMove, State.frameEnabled]
  show blockStep ((s.withSetup p).popMove) = _
  unfold blockStep
  rw [hf]
  rfl

end Sys2Proof.Machine
end

