-- ==== Sys2Proof/Laws/PerInstr.lean ====
section
/-! SUPPORT. Statements made per instruction, one lemma a constructor. -/
namespace Sys2Proof.Laws.EncodesItsRow

/-- A well-formed instruction's own packet matches its row of opcode_table.json (30_encoding.md R71, R83). -/
def Statement (i : Instr) : Prop := i.wellFormed = true → i.row.selects (encode i)

/-- A row selects a packet whose bytes, masked, are those of the pattern. -/
theorem selects_of_bytes {r : Row} {p : SetupPacket} (m q : SetupPacket) (hm : SetupPacket.ofWord r.mask = m)
    (hq : SetupPacket.ofWord r.pattern = q)
    (h : p.b0 &&& m.b0 = q.b0 ∧ p.b1 &&& m.b1 = q.b1 ∧ p.b2 &&& m.b2 = q.b2 ∧ p.b3 &&& m.b3 = q.b3 ∧
      p.b4 &&& m.b4 = q.b4 ∧ p.b5 &&& m.b5 = q.b5 ∧ p.b6 &&& m.b6 = q.b6 ∧ p.b7 &&& m.b7 = q.b7) :
    r.selects p := by
  rw [selects_iff, hm, hq, SetupPacket.mk.injEq]
  exact h

theorem getDescriptorDevice (len : U16) : Statement (.getDescriptorDevice len) := fun _ => by
  refine selects_of_bytes (r := .getDescriptorDevice) ⟨0, 0xff, 0xff, 0xff, 0xff, 0xff, 0, 0⟩ ⟨0, 0x6, 0, 0x1, 0, 0, 0, 0⟩ (by decide) (by decide) ?_
  simp only [encode, SetupPacket.ofFields]
  exact ⟨BitVec.and_zero, by decide, by decide, by decide, by decide, by decide, BitVec.and_zero, BitVec.and_zero⟩

theorem getDescriptorConfiguration (len : U16) : Statement (.getDescriptorConfiguration len) := fun _ => by
  refine selects_of_bytes (r := .getDescriptorConfiguration) ⟨0, 0xff, 0xff, 0xff, 0xff, 0xff, 0, 0⟩ ⟨0, 0x6, 0, 0x2, 0, 0, 0, 0⟩ (by decide) (by decide) ?_
  simp only [encode, SetupPacket.ofFields]
  exact ⟨BitVec.and_zero, by decide, by decide, by decide, by decide, by decide, BitVec.and_zero, BitVec.and_zero⟩

theorem getDescriptorHid (len : U16) : Statement (.getDescriptorHid len) := fun _ => by
  refine selects_of_bytes (r := .getDescriptorHid) ⟨0, 0xff, 0xff, 0xff, 0xff, 0xff, 0, 0⟩ ⟨0, 0x6, 0, 0x21, 0, 0, 0, 0⟩ (by decide) (by decide) ?_
  simp only [encode, SetupPacket.ofFields]
  exact ⟨BitVec.and_zero, by decide, by decide, by decide, by decide, by decide, BitVec.and_zero, BitVec.and_zero⟩

theorem getDescriptorReport (len : U16) : Statement (.getDescriptorReport len) := fun _ => by
  refine selects_of_bytes (r := .getDescriptorReport) ⟨0, 0xff, 0xff, 0xff, 0xff, 0xff, 0, 0⟩ ⟨0, 0x6, 0, 0x22, 0, 0, 0, 0⟩ (by decide) (by decide) ?_
  simp only [encode, SetupPacket.ofFields]
  exact ⟨BitVec.and_zero, by decide, by decide, by decide, by decide, by decide, BitVec.and_zero, BitVec.and_zero⟩

theorem setAddress (a : U7) : Statement (.setAddress a) := fun _ => by
  refine selects_of_bytes (r := .setAddress) ⟨0, 0xff, 0, 0, 0, 0, 0, 0⟩ ⟨0, 0x5, 0, 0, 0, 0, 0, 0⟩ (by decide) (by decide) ?_
  simp only [encode, SetupPacket.ofFields]
  exact ⟨BitVec.and_zero, by decide, BitVec.and_zero, BitVec.and_zero, BitVec.and_zero, BitVec.and_zero, BitVec.and_zero, BitVec.and_zero⟩

theorem setConfiguration (v : Byte) : Statement (.setConfiguration v) := fun _ => by
  refine selects_of_bytes (r := .setConfiguration) ⟨0xff, 0xff, 0, 0, 0, 0, 0, 0⟩ ⟨0, 0x9, 0, 0, 0, 0, 0, 0⟩ (by decide) (by decide) ?_
  simp only [encode, SetupPacket.ofFields]
  exact ⟨by decide, by decide, BitVec.and_zero, BitVec.and_zero, BitVec.and_zero, BitVec.and_zero, BitVec.and_zero, BitVec.and_zero⟩

theorem getConfiguration : Statement .getConfiguration := fun _ => by unfold Row.selects; decide

theorem getStatusEndpoint (e : U7) : Statement (.getStatusEndpoint e) := fun _ => by
  refine selects_of_bytes (r := .getStatusEndpoint) ⟨0xff, 0xff, 0, 0, 0, 0, 0, 0⟩ ⟨0x82, 0, 0, 0, 0, 0, 0, 0⟩ (by decide) (by decide) ?_
  simp only [encode, SetupPacket.ofFields]
  exact ⟨by decide, by decide, BitVec.and_zero, BitVec.and_zero, BitVec.and_zero, BitVec.and_zero, BitVec.and_zero, BitVec.and_zero⟩

theorem getStatus : Statement .getStatus := fun _ => by unfold Row.selects; decide

theorem setFeatureHaltEp1 : Statement .setFeatureHaltEp1 := fun _ => by unfold Row.selects; decide

theorem setFeatureHaltEp2 : Statement .setFeatureHaltEp2 := fun _ => by unfold Row.selects; decide

theorem setFeatureHaltEp3 : Statement .setFeatureHaltEp3 := fun _ => by unfold Row.selects; decide

theorem setFeatureHaltEp4 : Statement .setFeatureHaltEp4 := fun _ => by unfold Row.selects; decide

theorem clearFeatureHaltEp1 : Statement .clearFeatureHaltEp1 := fun _ => by unfold Row.selects; decide

theorem clearFeatureHaltEp2 : Statement .clearFeatureHaltEp2 := fun _ => by unfold Row.selects; decide

theorem clearFeatureHaltEp3 : Statement .clearFeatureHaltEp3 := fun _ => by unfold Row.selects; decide

theorem clearFeatureHaltEp4 : Statement .clearFeatureHaltEp4 := fun _ => by unfold Row.selects; decide

theorem hidGetReport : Statement .hidGetReport := fun _ => by unfold Row.selects; decide

theorem hidGetIdle : Statement .hidGetIdle := fun _ => by unfold Row.selects; decide

theorem hidGetProtocol : Statement .hidGetProtocol := fun _ => by unfold Row.selects; decide

theorem hidSetReport : Statement .hidSetReport := fun _ => by unfold Row.selects; decide

theorem hidSetIdle (r : Byte) : Statement (.hidSetIdle r) := fun _ => by
  refine selects_of_bytes (r := .hidSetIdle) ⟨0xff, 0xff, 0, 0, 0xff, 0xff, 0, 0⟩ ⟨0x21, 0xa, 0, 0, 0, 0, 0, 0⟩ (by decide) (by decide) ?_
  simp only [encode, SetupPacket.ofFields]
  exact ⟨by decide, by decide, BitVec.and_zero, BitVec.and_zero, by decide, by decide, BitVec.and_zero, BitVec.and_zero⟩

theorem hidSetProtocol (p : Byte) : Statement (.hidSetProtocol p) := fun _ => by
  refine selects_of_bytes (r := .hidSetProtocol) ⟨0xff, 0xff, 0, 0, 0xff, 0xff, 0, 0⟩ ⟨0x21, 0xb, 0, 0, 0, 0, 0, 0⟩ (by decide) (by decide) ?_
  simp only [encode, SetupPacket.ofFields]
  exact ⟨by decide, by decide, BitVec.and_zero, BitVec.and_zero, by decide, by decide, BitVec.and_zero, BitVec.and_zero⟩

theorem stall (c : StallCause) (p : SetupPacket) : Statement (.stall c p) := fun _ => by
  refine selects_of_bytes (r := .stall) ⟨0, 0, 0, 0, 0, 0, 0, 0⟩ ⟨0, 0, 0, 0, 0, 0, 0, 0⟩ (by decide) (by decide) ?_
  simp only [encode]
  exact ⟨BitVec.and_zero, BitVec.and_zero, BitVec.and_zero, BitVec.and_zero, BitVec.and_zero, BitVec.and_zero, BitVec.and_zero, BitVec.and_zero⟩

end Sys2Proof.Laws.EncodesItsRow
end

