-- ==== Sys2Proof/Tests/Slice0.lean ====
section
/-! SUPPORT. Tests against the written vectors of 95_test_vectors.md, and a witness for the hypotheses of
each obligation. The parameter values are the vector instance of its section 0. -/
namespace Sys2Proof.Tests
open Machine

/-! ### The vector instance (95_test_vectors.md section 0) -/

/-- The vectors' parameters. -/
def vp : Params := ⟨.b32, .ep3, .one, 63, .abort, false⟩

/-- The vectors' descriptor fields. -/
def vd : DescParams :=
  ⟨0x0110, 0, 0, 0, 0x1234, 0x5678, 0x0100, 0, 0, 0, 1, 0, 0x80, 0x32, 0, ⟨0, 1, 1, 1⟩, 0, 0x0A⟩

/-- The vectors' report descriptor. -/
def vrpt : List Byte :=
  [0x05, 0x01, 0x09, 0x06, 0xA1, 0x01, 0x75, 0x01, 0x95, 0x08, 0x05, 0x07, 0x19, 0xE0, 0x29, 0xE7] ++
  [0x15, 0x00, 0x25, 0x01, 0x81, 0x02, 0x95, 0x01, 0x75, 0x08, 0x81, 0x03, 0x95, 0x05, 0x75, 0x01] ++
  [0x05, 0x08, 0x19, 0x01, 0x29, 0x05, 0x91, 0x02, 0x95, 0x01, 0x75, 0x03, 0x91, 0x03, 0x95, 0x06] ++
  [0x75, 0x08, 0x15, 0x00, 0x25, 0x68, 0x05, 0x07, 0x19, 0x00, 0x29, 0x68, 0x81, 0x00, 0xC0]

/-- An endpoint 0 in its default configuration. -/
def ep0 : Endpoint := ⟨true, .control, .both, .b32, .one, false, .data1, [], []⟩

/-- The keyboard endpoint as SET_CONFIGURATION leaves it. -/
def ep3 : Endpoint := ⟨true, .interrupt, .in, .b8, .one, false, .data0, [], []⟩

/-- Power-on of the vector instance; `IDLE_INIT`, which it leaves open, is 0 here. -/
def vPowerOn : State where
  currentConfiguration := 0
  keys := ⟨0, 0, 0, 0, 0, 0, 0⟩
  idleConfig := 0
  idleCount := 0
  protocol := 1
  leds := 0
  fq := 0
  address := 0
  resetPending := false
  sofPending := false
  setupPending := false
  setupBuf := ⟨0, 0, 0, 0, 0, 0, 0, 0⟩
  ctl := .idle
  eps := ⟨.powerOn, .powerOn, .powerOn, .powerOn, .powerOn⟩
  setupIe := false
  lastStall := none
  rom := cellsFrom 0 (romImage vp vd vrpt)
  params := vp
  env := []
  answer := .silent
  draws := 0

/-- `S0` of 95_test_vectors.md section 4, with the HID registers of its section 5. -/
def s0 : State := { vPowerOn with
  currentConfiguration := 1
  idleConfig := 0x7D
  idleCount := 3
  address := 5
  setupIe := true
  eps := ⟨ep0, .powerOn, .powerOn, ep3, .powerOn⟩ }

/-- `S0` with a packet latched: the next step decodes it. -/
def latched (p : SetupPacket) : State := { s0 with setupBuf := p, setupPending := true }

/-- `S0` with endpoint 3 replaced. -/
def withEp3 (e : Endpoint) : State := { s0 with eps := { s0.eps with ep3 := e } }

/-- `S0` with endpoint 0 replaced and the dispatcher at `c`. -/
def at0 (c : Ctl) (e : Endpoint) : State := { s0 with ctl := c, eps := { s0.eps with ep0 := e } }

/-- `S0` with `m` as the next move. -/
def host (m : Move) : State := { s0 with env := [m] }

/-- A field of the state after one step. -/
def after {α : Type} (s : State) (f : State → α) : Option α :=
  match step s with
  | .next t => some (f t)
  | _ => none

/-- The fault a step ends in. -/
def faultOf (s : State) : Option Fault :=
  match step s with
  | .fault f => some f
  | _ => none

/-- The refusal a step ends in. -/
def refusalOf (s : State) : Option Refusal :=
  match step s with
  | .refused r => some r
  | _ => none

/-! ### The descriptor ROM -/

/-- The image of the vector instance is the listing of 95_test_vectors.md section 0. -/
theorem test_rom_image : romImage vp vd [] =
    [0x12, 0x01, 0x10, 0x01, 0x00, 0x00, 0x00, 0x20, 0x34, 0x12, 0x78, 0x56, 0x00, 0x01, 0x00, 0x00, 0x00, 0x01] ++
    [0x09, 0x02, 0x22, 0x00, 0x01, 0x01, 0x00, 0x80, 0x32, 0x09, 0x04, 0x00, 0x00, 0x01, 0x03, 0x01, 0x01, 0x00] ++
    [0x09, 0x21, 0x11, 0x01, 0x00, 0x01, 0x22, 0x3F, 0x00, 0x07, 0x05, 0x83, 0x03, 0x08, 0x00, 0x0A] := by decide

theorem test_rom_size : romSize vp = 115 ∧ s0.rom.length = 115 ∧ readCell s0.rom 0x72 = some 0xC0 ∧
    readCell s0.rom 0x73 = none := by decide

/-- The digits of HID_VERSION at both ends of their range. -/
theorem test_bcd : bcdWord ⟨0, 1, 1, 1⟩ = 0x0111 ∧ bcdWord ⟨9, 9, 9, 9⟩ = 0x9999 ∧ bcdWord ⟨1, 2, 3, 4⟩ = 0x1234 := by decide

/-! ### WellFormed refuses -/

/-- GET_DESCRIPTOR(DEVICE) is claimed by its row, so it is no stall. -/
theorem smoke_stall_of_a_claimed_packet :
    (Instr.stall .unsupported ⟨0x80, 0x06, 0x00, 0x01, 0x00, 0x00, 0x40, 0x00⟩).wellFormed = false := by decide

/-- V6 stalls with DescriptorNotFound, not with another cause. -/
theorem smoke_stall_with_another_cause :
    (Instr.stall .unsupported ⟨0x80, 0x06, 0x00, 0x03, 0x00, 0x00, 0xFF, 0x00⟩).wellFormed = false ∧
    (Instr.stall .badFeatureTarget ⟨0x80, 0x06, 0x00, 0x03, 0x00, 0x00, 0xFF, 0x00⟩).wellFormed = false ∧
    (Instr.stall .descriptorNotFound ⟨0x80, 0x06, 0x00, 0x03, 0x00, 0x00, 0xFF, 0x00⟩).wellFormed = true := by decide

theorem smoke_only_eight_bytes_decode :
    decodeBytes [0x80, 0x06, 0x00, 0x01, 0x00, 0x00, 0x40] = .error (.wrongLength 7) ∧
    decodeBytes [] = .error (.wrongLength 0) ∧
    decodeBytes [0x80, 0x06, 0x00, 0x01, 0x00, 0x00, 0x40, 0x00] = .ok (.getDescriptorDevice 64) := by decide

/-! ### Decoding (95_test_vectors.md section 2) -/

/-- V1 to V9. -/
theorem test_decode_get_descriptor :
    decode ⟨0x80, 0x06, 0x00, 0x01, 0x00, 0x00, 0x40, 0x00⟩ = .getDescriptorDevice 64 ∧
    decode ⟨0x80, 0x06, 0x00, 0x02, 0x00, 0x00, 0xFF, 0x00⟩ = .getDescriptorConfiguration 255 ∧
    decode ⟨0x81, 0x06, 0x00, 0x22, 0x00, 0x00, 0xFF, 0x00⟩ = .getDescriptorReport 255 ∧
    decode ⟨0x81, 0x06, 0x00, 0x21, 0x00, 0x00, 0x09, 0x00⟩ = .getDescriptorHid 9 ∧
    decode ⟨0x00, 0x06, 0x00, 0x01, 0x00, 0x00, 0x12, 0x00⟩ = .getDescriptorDevice 18 ∧
    (∀ p ∈ ([⟨0x80, 0x06, 0x00, 0x03, 0x00, 0x00, 0xFF, 0x00⟩, ⟨0x80, 0x06, 0x00, 0x01, 0x01, 0x00, 0x12, 0x00⟩,
      ⟨0x80, 0x06, 0x01, 0x02, 0x00, 0x00, 0x09, 0x00⟩, ⟨0x80, 0x06, 0x00, 0x22, 0x01, 0x00, 0xFF, 0x00⟩] : List SetupPacket),
      decode p = .stall .descriptorNotFound p) := by decide

/-- V10 to V18. -/
theorem test_decode_address_and_configuration :
    decode ⟨0x00, 0x05, 0x05, 0x00, 0x00, 0x00, 0x00, 0x00⟩ = .setAddress 5 ∧
    decode ⟨0x00, 0x05, 0x85, 0x00, 0x00, 0x00, 0x00, 0x00⟩ = .setAddress 5 ∧
    decode ⟨0xC0, 0x05, 0x7F, 0x00, 0x12, 0x34, 0x56, 0x78⟩ = .setAddress 0x7F ∧
    decode ⟨0x00, 0x09, 0x01, 0x00, 0x00, 0x00, 0x00, 0x00⟩ = .setConfiguration 1 ∧
    decode ⟨0x00, 0x09, 0x01, 0x01, 0x00, 0x00, 0x00, 0x00⟩ = .setConfiguration 1 ∧
    decode ⟨0x00, 0x09, 0x00, 0x00, 0x00, 0x00, 0x00, 0x00⟩ = .setConfiguration 0 ∧
    decode ⟨0x80, 0x08, 0x00, 0x00, 0x00, 0x00, 0x01, 0x00⟩ = .getConfiguration ∧
    (∀ p ∈ ([⟨0x01, 0x09, 0x01, 0x00, 0x00, 0x00, 0x00, 0x00⟩, ⟨0x00, 0x08, 0x00, 0x00, 0x00, 0x00, 0x01, 0x00⟩] :
      List SetupPacket), decode p = .stall .unsupported p) := by decide

/-- V19 to V32. -/
theorem test_decode_status_and_features :
    decode ⟨0x82, 0x00, 0x00, 0x00, 0x83, 0x00, 0x02, 0x00⟩ = .getStatusEndpoint 3 ∧
    decode ⟨0x82, 0x00, 0x00, 0x00, 0x05, 0x00, 0x02, 0x00⟩ = .getStatusEndpoint 5 ∧
    (∀ p ∈ ([⟨0x80, 0x00, 0x00, 0x00, 0x00, 0x00, 0x02, 0x00⟩, ⟨0x81, 0x00, 0x00, 0x00, 0x00, 0x00, 0x02, 0x00⟩,
      ⟨0x02, 0x00, 0x00, 0x00, 0x83, 0x00, 0x02, 0x00⟩] : List SetupPacket), decode p = .getStatus) ∧
    decode ⟨0x02, 0x03, 0x00, 0x00, 0x83, 0x00, 0x00, 0x00⟩ = .setFeatureHaltEp3 ∧
    decode ⟨0x02, 0x03, 0x00, 0x00, 0x03, 0x01, 0x00, 0x00⟩ = .setFeatureHaltEp3 ∧
    decode ⟨0x02, 0x01, 0x00, 0x00, 0x01, 0x00, 0x00, 0x00⟩ = .clearFeatureHaltEp1 ∧
    decode ⟨0x02, 0x01, 0x00, 0x00, 0x84, 0x00, 0x00, 0x00⟩ = .clearFeatureHaltEp4 ∧
    (∀ p ∈ ([⟨0x02, 0x03, 0x00, 0x00, 0x00, 0x00, 0x00, 0x00⟩, ⟨0x02, 0x03, 0x00, 0x00, 0x85, 0x00, 0x00, 0x00⟩,
      ⟨0x02, 0x01, 0x00, 0x00, 0x13, 0x00, 0x00, 0x00⟩, ⟨0x02, 0x01, 0x01, 0x00, 0x81, 0x00, 0x00, 0x00⟩] :
      List SetupPacket), decode p = .stall .badFeatureTarget p) ∧
    decode ⟨0x00, 0x03, 0x01, 0x00, 0x00, 0x00, 0x00, 0x00⟩ =
      .stall .unsupported ⟨0x00, 0x03, 0x01, 0x00, 0x00, 0x00, 0x00, 0x00⟩ := by decide

/-- The halt features of the other slots, written from 30_encoding.md R73 and R75 as V24 and V26 are. -/
theorem test_decode_the_other_slots :
    decode ⟨0x02, 0x03, 0x00, 0x00, 0x81, 0x00, 0x00, 0x00⟩ = .setFeatureHaltEp1 ∧
    decode ⟨0x02, 0x03, 0x00, 0x00, 0x82, 0x00, 0x00, 0x00⟩ = .setFeatureHaltEp2 ∧
    decode ⟨0x02, 0x03, 0x00, 0x00, 0x84, 0x00, 0x00, 0x00⟩ = .setFeatureHaltEp4 ∧
    decode ⟨0x02, 0x01, 0x00, 0x00, 0x02, 0x00, 0x00, 0x00⟩ = .clearFeatureHaltEp2 ∧
    decode ⟨0x02, 0x01, 0x00, 0x00, 0x83, 0x00, 0x00, 0x00⟩ = .clearFeatureHaltEp3 := by decide

/-- V33 to V50. -/
theorem test_decode_hid_and_stalls :
    decode ⟨0xA1, 0x01, 0x00, 0x01, 0x00, 0x00, 0x08, 0x00⟩ = .hidGetReport ∧
    decode ⟨0xA1, 0x02, 0x00, 0x00, 0x00, 0x00, 0x01, 0x00⟩ = .hidGetIdle ∧
    decode ⟨0xA1, 0x03, 0x00, 0x00, 0x00, 0x00, 0x01, 0x00⟩ = .hidGetProtocol ∧
    decode ⟨0x21, 0x09, 0x00, 0x02, 0x00, 0x00, 0x01, 0x00⟩ = .hidSetReport ∧
    decode ⟨0x21, 0x0A, 0x00, 0x7D, 0x00, 0x00, 0x00, 0x00⟩ = .hidSetIdle 0x7D ∧
    decode ⟨0x21, 0x0A, 0xFF, 0x00, 0x00, 0x00, 0x00, 0x00⟩ = .hidSetIdle 0 ∧
    decode ⟨0x21, 0x0B, 0x00, 0x00, 0x00, 0x00, 0x00, 0x00⟩ = .hidSetProtocol 0 ∧
    decode ⟨0x21, 0x0B, 0x05, 0x01, 0x00, 0x00, 0x00, 0x00⟩ = .hidSetProtocol 5 ∧
    (∀ p ∈ ([⟨0xA1, 0x03, 0x00, 0x00, 0x01, 0x00, 0x01, 0x00⟩, ⟨0xA1, 0x03, 0x00, 0x00, 0x00, 0x01, 0x01, 0x00⟩,
      ⟨0x21, 0x01, 0x00, 0x01, 0x00, 0x00, 0x08, 0x00⟩, ⟨0xA1, 0x0A, 0x00, 0x00, 0x00, 0x00, 0x00, 0x00⟩,
      ⟨0x00, 0x07, 0x00, 0x01, 0x00, 0x00, 0x12, 0x00⟩, ⟨0x81, 0x0A, 0x00, 0x00, 0x00, 0x00, 0x01, 0x00⟩,
      ⟨0x01, 0x0B, 0x00, 0x00, 0x00, 0x00, 0x00, 0x00⟩, ⟨0x82, 0x0C, 0x00, 0x00, 0x83, 0x00, 0x02, 0x00⟩,
      ⟨0xC0, 0x01, 0x00, 0x00, 0x00, 0x00, 0x01, 0x00⟩, ⟨0x00, 0x04, 0x00, 0x00, 0x00, 0x00, 0x00, 0x00⟩] :
      List SetupPacket), decode p = .stall .unsupported p) := by decide

/-- The `match` words of opcode_table.json, bit by bit. -/
theorem test_decode_table_words :
    decodeTableWord 64 0x0000000001000600 = some (.getDescriptorDevice 0) ∧
    decodeTableWord 64 0x0000000002000600 = some (.getDescriptorConfiguration 0) ∧
    decodeTableWord 64 0x0000000021000600 = some (.getDescriptorHid 0) ∧
    decodeTableWord 64 0x0000000022000600 = some (.getDescriptorReport 0) ∧
    decodeTableWord 64 0x0000000000000500 = some (.setAddress 0) ∧
    decodeTableWord 64 0x0000000000000900 = some (.setConfiguration 0) ∧
    decodeTableWord 64 0x0000000000000880 = some .getConfiguration ∧
    decodeTableWord 64 0x0000000000000082 = some (.getStatusEndpoint 0) ∧
    decodeTableWord 64 0x0000000000000000 = some .getStatus ∧
    decodeTableWord 64 0x0000000100000302 = some .setFeatureHaltEp1 ∧
    decodeTableWord 64 0x0000000200000302 = some .setFeatureHaltEp2 ∧
    decodeTableWord 64 0x0000000300000302 = some .setFeatureHaltEp3 ∧
    decodeTableWord 64 0x0000000400000302 = some .setFeatureHaltEp4 := by decide

theorem test_decode_table_words_2 :
    decodeTableWord 64 0x0000000100000102 = some .clearFeatureHaltEp1 ∧
    decodeTableWord 64 0x0000000200000102 = some .clearFeatureHaltEp2 ∧
    decodeTableWord 64 0x0000000300000102 = some .clearFeatureHaltEp3 ∧
    decodeTableWord 64 0x0000000400000102 = some .clearFeatureHaltEp4 ∧
    decodeTableWord 64 0x00000000000001A1 = some .hidGetReport ∧
    decodeTableWord 64 0x00000000000002A1 = some .hidGetIdle ∧
    decodeTableWord 64 0x00000000000003A1 = some .hidGetProtocol ∧
    decodeTableWord 64 0x0000000000000921 = some .hidSetReport ∧
    decodeTableWord 64 0x0000000000000A21 = some (.hidSetIdle 0) ∧
    decodeTableWord 64 0x0000000000000B21 = some (.hidSetProtocol 0) ∧
    decodeTableWord 64 0x0000000000000704 =
      some (.stall .unsupported ⟨0x04, 0x07, 0, 0, 0, 0, 0, 0⟩) ∧
    decodeTableWord 72 0 = none := by decide

/-- A placed word is what the next step runs, from power-on. -/
theorem test_fetch_word_runs :
    after (State.reset.withFetchWord 64 0x0000000000050500) (·.ctl) = some (.statusInAddr 5) ∧
    after (State.reset.withFetchWord 64 0x0000000022000600) (·.ctl) = some (.dataIn []) ∧
    after (State.reset.withFetchWord 64 0x000000007D000A21) (fun t => (t.idleConfig, t.setupPending)) = some (0x7D, false) := by
  decide

/-! ### Instructions, one step from `S0` (95_test_vectors.md sections 3 to 5) -/

/-- V52. -/
theorem test_get_descriptor_device :
    after (latched ⟨0x80, 0x06, 0x00, 0x01, 0x00, 0x00, 0x08, 0x00⟩) (·.ctl) =
      some (.dataIn [0x12, 0x01, 0x10, 0x01, 0x00, 0x00, 0x00, 0x20]) := by decide

/-- V53: an empty read still has its data stage. -/
theorem test_get_descriptor_device_len_zero :
    after (latched ⟨0x80, 0x06, 0x00, 0x01, 0x00, 0x00, 0x00, 0x00⟩) (·.ctl) = some (.dataIn []) := by decide

/-- V56: `len` = 0xFFFF is cut to the table's 34 bytes. -/
theorem test_get_descriptor_configuration :
    after (latched ⟨0x80, 0x06, 0x00, 0x02, 0x00, 0x00, 0xFF, 0xFF⟩) (·.ctl) = some (.dataIn
      [0x09, 0x02, 0x22, 0x00, 0x01, 0x01, 0x00, 0x80, 0x32, 0x09, 0x04, 0x00, 0x00, 0x01, 0x03, 0x01, 0x01, 0x00,
        0x09, 0x21, 0x11, 0x01, 0x00, 0x01, 0x22, 0x3F, 0x00, 0x07, 0x05, 0x83, 0x03, 0x08, 0x00, 0x0A]) := by decide

/-- V59. -/
theorem test_get_descriptor_hid :
    after (latched ⟨0x81, 0x06, 0x00, 0x21, 0x00, 0x00, 0xFF, 0x00⟩) (·.ctl) =
      some (.dataIn [0x09, 0x21, 0x11, 0x01, 0x00, 0x01, 0x22, 0x3F, 0x00]) := by decide

/-- V60's first bytes, and the cut at `RPT_LEN` (here 4, to keep the evaluation small). -/
theorem test_get_descriptor_report :
    after (latched ⟨0x81, 0x06, 0x00, 0x22, 0x00, 0x00, 0x08, 0x00⟩) (·.ctl) = some (.dataIn (vrpt.take 8)) ∧
    after { latched ⟨0x81, 0x06, 0x00, 0x22, 0x00, 0x00, 0x40, 0x00⟩ with params := { vp with rptLen := 4 } } (·.ctl) =
      some (.dataIn [0x05, 0x01, 0x09, 0x06]) := by decide

/-- V66, decode step. -/
theorem test_set_address :
    after (latched ⟨0x00, 0x05, 0x0A, 0x00, 0x00, 0x00, 0x00, 0x00⟩) (fun t => (t.ctl, t.address)) =
      some (.statusInAddr 10, 5) := by decide

/-- V69. -/
theorem test_set_configuration :
    after (latched ⟨0x00, 0x09, 0x02, 0x00, 0x00, 0x00, 0x00, 0x00⟩) (fun t => (t.currentConfiguration, t.ctl)) =
      some (2, .statusIn) := by decide

/-- V70: the armed report is dropped and the toggle reset. -/
theorem test_set_configuration_resets_the_slot :
    after { withEp3 { ep3 with toggle := .data1, halt := true, txq := [[1, 2, 3, 4, 5, 6, 7, 8]] } with
      setupBuf := ⟨0x00, 0x09, 0x01, 0x00, 0x00, 0x00, 0x00, 0x00⟩, setupPending := true } (·.eps) =
      some ⟨ep0, .powerOn, .powerOn, ep3, .powerOn⟩ := by decide

/-- V71: `len` = 0 does not shorten it. -/
theorem test_get_configuration :
    after (latched ⟨0x80, 0x08, 0x00, 0x00, 0x00, 0x00, 0x00, 0x00⟩) (·.ctl) = some (.dataIn [0x01]) := by decide

/-- V72. -/
theorem test_get_status_endpoint :
    after (latched ⟨0x82, 0x00, 0x00, 0x00, 0x83, 0x00, 0x02, 0x00⟩) (·.ctl) = some (.dataIn [0x00, 0x00]) := by decide

/-- V73, its second part. -/
theorem test_get_status_endpoint_halted :
    after { withEp3 { ep3 with halt := true } with
      setupBuf := ⟨0x82, 0x00, 0x00, 0x00, 0x83, 0x00, 0x02, 0x00⟩, setupPending := true } (·.ctl) =
      some (.dataIn [0x01, 0x00]) := by decide

/-- GET_STATUS on the device (42_standard_requests.md R119). -/
theorem test_get_status :
    after (latched ⟨0x80, 0x00, 0x00, 0x00, 0x00, 0x00, 0x02, 0x00⟩) (·.ctl) = some (.dataIn [0x00, 0x00]) := by decide

/-- V73 and V75: the halt bit is set, the slot enabled or not. -/
theorem test_set_feature_halt :
    after (latched ⟨0x02, 0x03, 0x00, 0x00, 0x83, 0x00, 0x00, 0x00⟩) (·.eps) =
      some ⟨ep0, .powerOn, .powerOn, { ep3 with halt := true }, .powerOn⟩ ∧
    after (latched ⟨0x02, 0x03, 0x00, 0x00, 0x81, 0x00, 0x00, 0x00⟩) (·.eps) =
      some ⟨ep0, { Endpoint.powerOn with halt := true }, .powerOn, ep3, .powerOn⟩ := by decide

theorem test_set_feature_halt_2_and_4 :
    after (latched ⟨0x02, 0x03, 0x00, 0x00, 0x82, 0x00, 0x00, 0x00⟩) (·.eps.ep2.halt) = some true ∧
    after (latched ⟨0x02, 0x03, 0x00, 0x00, 0x84, 0x00, 0x00, 0x00⟩) (·.eps.ep4.halt) = some true := by decide

/-- V74: the halt goes, the toggle is DATA0, and what is armed stays (42_standard_requests.md R123). -/
theorem test_clear_feature_halt :
    after { withEp3 { ep3 with halt := true, toggle := .data1, txq := [[1]] } with
      setupBuf := ⟨0x02, 0x01, 0x00, 0x00, 0x83, 0x00, 0x00, 0x00⟩, setupPending := true } (·.eps.ep3) =
      some { ep3 with txq := [[1]] } := by decide

theorem test_clear_feature_halt_of_the_others :
    let s : SetupPacket → State := fun p => { s0 with
      setupBuf := p, setupPending := true
      eps := ⟨ep0, { ep3 with halt := true }, { ep3 with halt := true }, ep3, { ep3 with halt := true }⟩ }
    after (s ⟨0x02, 0x01, 0x00, 0x00, 0x01, 0x00, 0x00, 0x00⟩) (fun t => (t.eps.ep1.halt, t.eps.ep2.halt)) =
      some (false, true) ∧
    after (s ⟨0x02, 0x01, 0x00, 0x00, 0x02, 0x00, 0x00, 0x00⟩) (fun t => (t.eps.ep2.halt, t.eps.ep4.halt)) =
      some (false, true) ∧
    after (s ⟨0x02, 0x01, 0x00, 0x00, 0x84, 0x00, 0x00, 0x00⟩) (fun t => (t.eps.ep4.halt, t.eps.ep1.halt)) =
      some (false, true) := by decide

/-- V80: all 8 bytes whatever `len`; the key state of program P2. -/
theorem test_hid_get_report :
    after { latched ⟨0xA1, 0x01, 0x00, 0x01, 0x00, 0x00, 0x02, 0x00⟩ with keys := ⟨0x02, 0x04, 0, 0, 0, 0, 0⟩ }
      (fun t => (t.ctl, t.idleCount)) = some (.dataIn [0x02, 0x00, 0x04, 0, 0, 0, 0, 0], 3) := by decide

/-- V81. -/
theorem test_hid_get_idle :
    after (latched ⟨0xA1, 0x02, 0x00, 0x00, 0x00, 0x00, 0x01, 0x00⟩) (·.ctl) = some (.dataIn [0x7D]) := by decide

/-- V82. -/
theorem test_hid_get_protocol :
    after (latched ⟨0xA1, 0x03, 0x00, 0x00, 0x00, 0x00, 0x01, 0x00⟩) (·.ctl) = some (.dataIn [0x01]) := by decide

/-- V87, decode step. -/
theorem test_hid_set_report :
    after (latched ⟨0x21, 0x09, 0x00, 0x02, 0x00, 0x00, 0x01, 0x00⟩) (fun t => (t.ctl, t.leds)) = some (.dataOut, 0) := by
  decide

/-- V84. -/
theorem test_hid_set_idle :
    after (latched ⟨0x21, 0x0A, 0x00, 0x01, 0x00, 0x00, 0x00, 0x00⟩) (fun t => (t.idleConfig, t.idleCount, t.ctl)) =
      some (1, 0, .statusIn) := by decide

/-- V86. -/
theorem test_hid_set_protocol :
    after (latched ⟨0x21, 0x0B, 0x05, 0x01, 0x00, 0x00, 0x00, 0x00⟩) (fun t => (t.protocol, t.ctl)) =
      some (5, .statusIn) := by decide

/-- V77. -/
theorem test_stall :
    after (latched ⟨0x80, 0x06, 0x00, 0x03, 0x00, 0x00, 0xFF, 0x00⟩) (fun t => (t.eps.ep0.halt, t.lastStall, t.ctl)) =
      some (true, some .descriptorNotFound, .idle) := by decide

/-- V78. -/
theorem test_stall_bad_feature_target :
    after (latched ⟨0x02, 0x03, 0x00, 0x00, 0x85, 0x00, 0x00, 0x00⟩) (fun t => (t.lastStall, t.eps)) =
      some (some .badFeatureTarget, { s0.eps with ep0 := { ep0 with halt := true } }) := by decide

/-- A ROM read is defined only inside the ROM (20_memory.md R54): off a loaded ROM it is the model fault. -/
theorem test_descriptor_off_the_rom :
    faultOf { latched ⟨0x80, 0x06, 0x00, 0x01, 0x00, 0x00, 0x12, 0x00⟩ with rom := cellsFrom 0 (vrpt.take 17) } =
      some .romOutOfRange := by decide

/-! ### The dispatcher after its decode step -/

/-- V55: the second packet of 34 bytes. -/
theorem test_chunk_keeps_the_rest :
    after (at0 (.dataIn (List.replicate 32 1 ++ [0x00, 0x0A])) ep0) (fun t => (t.ctl, t.eps.ep0.txq)) =
      some (.dataIn [0x00, 0x0A], [List.replicate 32 1]) := by decide

/-- V57: 32 bytes are one packet and no empty one. -/
theorem test_chunk_full_packet_ends :
    after (at0 (.dataIn (List.replicate 32 1)) ep0) (fun t => (t.ctl, t.eps.ep0.txq)) =
      some (.idle, [List.replicate 32 1]) := by decide

/-- V55: the step waits while the packet is armed. -/
theorem test_chunk_waits :
    after (at0 (.dataIn [0x00, 0x0A]) { ep0 with txq := [[1]] }) (fun t => (t.ctl, t.eps.ep0.txq)) =
      some (.dataIn [0x00, 0x0A], [[1]]) := by decide

/-- V88: the first of three bytes, the others dropped. -/
theorem test_report_byte :
    after (at0 .dataOut { ep0 with rxq := [[0x05, 0xAA, 0xBB]] }) (fun t => (t.leds, t.eps.ep0.rxq, t.ctl)) =
      some (0x05, [], .statusIn) := by decide

/-- V91: an empty packet gives a free byte. -/
theorem test_report_byte_of_an_empty_packet :
    after (at0 .dataOut { ep0 with rxq := [[]] }) (fun t => (t.leds, t.eps.ep0.rxq, t.draws)) =
      some (Config.freeByte 0, [], 1) := by rfl

/-- V87, last step. -/
theorem test_status_packet :
    after (at0 .statusIn ep0) (fun t => (t.ctl, t.eps.ep0.txq)) = some (.idle, [[]]) := by decide

/-- V66, its two later steps. -/
theorem test_set_address_status :
    after (at0 (.statusInAddr 10) ep0) (fun t => (t.ctl, t.address, t.eps.ep0.txq)) =
      some (.addressWait 10, 5, [[]]) := by decide

theorem test_set_address_end :
    after (at0 (.addressWait 10) ep0) (fun t => (t.ctl, t.address)) = some (.idle, 10) ∧
    after (at0 (.addressWait 10) { ep0 with txq := [[]] }) (fun t => (t.ctl, t.address)) =
      some (.addressWait 10, 5) := by decide

/-! ### The frame handler (95_test_vectors.md section 6) -/

/-- V93, V94. -/
theorem test_sof_counts_when_configured :
    after { s0 with sofPending := true, currentConfiguration := 0, fq := 2 } (fun t => (t.fq, t.sofPending)) =
      some (2, false) ∧
    after { s0 with sofPending := true } (·.fq) = some 1 := by decide

/-- V95, V96. -/
theorem test_idle_tick_counts :
    after { s0 with sofPending := true, fq := 3, idleConfig := 0, idleCount := 0 }
      (fun t => (t.fq, t.idleCount, t.eps.ep3.txq)) = some (0, 0, []) ∧
    after { s0 with sofPending := true, fq := 3, idleConfig := 2, idleCount := 0 }
      (fun t => (t.fq, t.idleCount, t.eps.ep3.txq)) = some (0, 1, []) := by decide

/-- V97, V99: the report is armed, the endpoint halted or not. -/
theorem test_idle_tick_reports :
    after { s0 with sofPending := true, fq := 3, idleConfig := 2, idleCount := 1 }
      (fun t => (t.idleCount, t.eps.ep3.txq)) = some (0, [[0, 0, 0, 0, 0, 0, 0, 0]]) ∧
    after { withEp3 { ep3 with halt := true } with sofPending := true, fq := 3, idleConfig := 1, idleCount := 0 }
      (·.eps.ep3.txq) = some [[0, 0, 0, 0, 0, 0, 0, 0]] := by decide

/-- V98: with a report still armed the tick is skipped. -/
theorem test_idle_tick_skipped :
    after { withEp3 { ep3 with txq := [[1]] } with sofPending := true, fq := 3, idleConfig := 1, idleCount := 0 }
      (fun t => (t.fq, t.idleCount, t.eps.ep3.txq)) = some (0, 0, [[1]]) := by decide

/-- V104. -/
theorem test_reset_work_before_sof_work :
    after { s0 with resetPending := true, sofPending := true, fq := 3 }
      (fun t => (t.currentConfiguration, t.fq, t.resetPending, t.sofPending)) = some (0, 3, false, false) := by decide

/-- V123: with a reset and a SETUP pending the frame handler steps first. -/
theorem test_frame_handler_first :
    after { latched ⟨0x80, 0x08, 0x00, 0x00, 0x00, 0x00, 0x01, 0x00⟩ with resetPending := true }
      (fun t => (t.currentConfiguration, t.resetPending, t.setupPending, t.ctl)) = some (0, false, true, .idle) := by decide

/-- V126, the handler's step. -/
theorem test_reset_work_at_power_on :
    after { vPowerOn with resetPending := true } (fun t => (t.eps.ep0, t.setupIe)) =
      some ({ ep0 with toggle := .data0 }, true) := by decide

/-! ### The environment (95_test_vectors.md sections 7 and 8) -/

/-- V107, V110, V111, V112. -/
theorem test_in_without_data :
    after (host (.hostIn 5 0)) (·.answer) = some .nak ∧ after (host (.hostIn 6 0)) (·.answer) = some .silent ∧
    after (host (.hostIn 5 7)) (·.answer) = some .silent ∧ after (host (.hostIn 5 2)) (·.answer) = some .silent := by
  decide

/-- V108, V109. -/
theorem test_in_takes_a_packet :
    after { at0 .idle { ep0 with txq := [[0x01]] } with env := [.hostIn 5 0] }
      (fun t => (t.answer, t.eps.ep0.txq, t.eps.ep0.toggle)) = some (.data .data1 [0x01], [], .data0) ∧
    after { at0 .idle { ep0 with txq := [[0x01]], halt := true } with env := [.hostIn 5 0] }
      (fun t => (t.answer, t.eps.ep0.txq)) = some (.stall, [[0x01]]) := by decide

/-- V114, V115, V116. -/
theorem test_out :
    after (host (.hostOut 5 3 [1])) (fun t => (t.answer, t.eps.ep3.rxq)) = some (.silent, []) ∧
    after (host (.hostOut 5 0 [])) (fun t => (t.answer, t.eps.ep0.rxq)) = some (.ack, [[]]) ∧
    after { at0 .idle { ep0 with rxq := [[]] } with env := [.hostOut 5 0 [0x02]] }
      (fun t => (t.answer, t.eps.ep0.rxq)) = some (.nak, [[]]) := by decide

/-- V117, V119. -/
theorem test_setup_is_latched :
    after { at0 .idle { ep0 with halt := true, rxq := [[]], txq := [[1]], toggle := .data0 } with
      env := [.hostSetup 5 0 [0x80, 0x08, 0, 0, 0, 0, 1, 0]] }
      (fun t => (t.eps.ep0, t.setupPending, t.setupBuf, t.ctl)) =
        some (ep0, true, ⟨0x80, 0x08, 0, 0, 0, 0, 1, 0⟩, .idle) ∧
    after { at0 (.dataIn [1]) { ep0 with txq := [[1]] } with env := [.hostSetup 5 0 [0x80, 0x08, 0, 0, 0, 0, 1, 0]] }
      (fun t => (t.answer, t.ctl, t.eps.ep0)) = some (.ack, .setupReceived, ep0) := by decide

/-- V118, V124. -/
theorem test_setup_ignored :
    after (host (.hostSetup 5 3 [0x80, 0x08, 0, 0, 0, 0, 1, 0])) (fun t => (t.answer, t.setupPending)) =
      some (.silent, false) ∧
    after { vPowerOn with env := [.hostSetup 0 0 [0x80, 0x08, 0, 0, 0, 0, 1, 0]] } (fun t => (t.answer, t.setupPending)) =
      some (.silent, false) := by decide

/-- V121. -/
theorem test_bus_reset :
    after { at0 .statusIn { ep0 with txq := [[1]] } with env := [.hostReset], setupPending := true }
      (fun t => (t.address, t.eps.ep3.en, t.setupPending, t.resetPending, t.ctl)) =
      some (0, false, false, true, .idle) := by decide

/-- The two host packets R171 assumes away have no step (45_endpoint_engine.md R164, R157). -/
theorem test_host_assumptions :
    refusalOf (host (.hostOut 5 0 (List.replicate 33 0))) = some .oversizeOut ∧
    refusalOf (host (.hostSetup 5 0 [0x80])) = some .setupNotEightBytes := by decide

/-- V105: a second start of frame before the handler runs is lost. -/
theorem test_sof_pending :
    after { s0 with sofPending := true, env := [.hostSof] } (fun t => (t.sofPending, t.fq)) = some (true, 0) := by decide

/-- Program P2 step 4, and the step the parameter or an active dispatcher withholds (00_scope.md R12). -/
theorem test_application_writes :
    after { s0 with params := { vp with appWritesKeys := true }, env := [.appWrite .key0 0x04] } (·.keys.key0) = some 0x04 ∧
    after { s0 with env := [.appWrite .key0 0x04] } (·.keys.key0) = some 0 ∧
    after { s0 with params := { vp with appWritesKeys := true }, ctl := .dataOut, env := [.appWrite .modifier 0x04] }
      (·.keys.modifier) = some 0 ∧
    after { s0 with leds := 0x03, env := [.appReadLeds] } (·.answer) = some (.leds 0x03) := by decide

/-! ### Witnesses: for each obligation with hypotheses, values that meet them, at the ends of their ranges -/

/-- The vectors' ROM is loaded, whatever else the state holds. -/
theorem rom_loaded (s : State) (hr : s.rom = cellsFrom 0 (romImage vp vd vrpt)) (hp : s.params = vp) : s.RomLoaded := by
  refine ⟨by rw [hr]; exact memWf_cellsFrom _ _, fun a ha => ?_⟩
  rw [hp] at ha
  have hl : a < (romImage vp vd vrpt).length := ha
  rw [hr, readCell_cellsFrom, if_pos (Nat.zero_le a), Nat.sub_zero, List.getElem?_eq_getElem hl]
  rfl

theorem s0_queues (i : EpNum) : (s0.ep i).QueuesFit := by
  unfold Endpoint.QueuesFit
  cases i <;> decide

theorem s0_app (a : AppEp) (h : (s0.ep (appNum a)).en = true) : a = s0.params.kbdEp ∧
    (s0.ep (appNum a)).type = .interrupt ∧ (s0.ep (appNum a)).dir = .in ∧ (s0.ep (appNum a)).size = .b8 ∧
    (s0.ep (appNum a)).banks = s0.params.kbdBanks := by
  revert h
  cases a <;> decide

theorem s0_idle : s0.idleCount = 0 ∨ s0.idleCount.toNat < s0.idleConfig.toNat := by decide

/-- `S0` meets the invariant, whatever moves are to come and whichever bits wait. -/
theorem s0_inv (ms : List Move) (r f p : Bool) (b : SetupPacket) : ({ s0 with
    env := ms, resetPending := r, sofPending := f, setupPending := p, setupBuf := b } : State).Inv where
  rptLen := (by decide : 1 ≤ s0.params.rptLen ∧ s0.params.rptLen ≤ 255)
  rom := rom_loaded _ rfl rfl
  queues := s0_queues
  ep0 := fun _ => ⟨rfl, rfl, rfl, rfl, rfl⟩
  setupIe := rfl
  app := s0_app
  kbd := fun _ _ => rfl
  latched := fun _ => .inl rfl
  active := fun _ => ⟨rfl, rfl⟩
  fresh := fun _ => rfl
  idle := s0_idle

/-- `S0` is between transfers. -/
theorem s0_ready : s0.Ready := ⟨rfl, ⟨rfl, rfl, rfl, rfl, rfl⟩, rfl, rfl⟩

theorem witness_DecodeEncodeRoundTrip :
    (Instr.setAddress 0x7F).wellFormed = true ∧ (Instr.getDescriptorReport 0xFFFF).wellFormed = true ∧
    (Instr.stall .unsupported ⟨0x00, 0x04, 0, 0, 0, 0, 0, 0⟩).wellFormed = true ∧
    (Instr.stall .badFeatureTarget ⟨0x02, 0x03, 0, 0, 0x05, 0, 0, 0⟩).wellFormed = true := by decide

theorem witness_OpcodeTableSelectsDecodedRow :
    let p : SetupPacket := ⟨0x02, 0x03, 0x00, 0x00, 0x84, 0x00, 0x00, 0x00⟩
    Row.stall.selects p ∧ Row.stall ≠ (decode p).row ∧ (Row.setFeatureHalt .ep4).selects p ∧
      Row.setFeatureHalt .ep4 ≠ .stall := by
  unfold Row.selects
  decide

theorem witness_FieldsNoRowNamesAreIgnored_1 :
    let p : SetupPacket := ⟨0x80, 0x06, 0x00, 0x22, 0x00, 0x00, 0xFF, 0xFF⟩
    let q : SetupPacket := ⟨0x81, 0x06, 0x00, 0x22, 0x00, 0x00, 0xFF, 0xFF⟩
    q ≠ p ∧ q.rq = p.rq ∧ p.rq = 0x06#8 ∧ (lookup p.val p.idx).isSome = true ∧ q.val = p.val ∧ q.idx = p.idx ∧
      q.len = p.len := by decide

theorem witness_FieldsNoRowNamesAreIgnored_2 :
    let p : SetupPacket := ⟨0x00, 0x05, 0x7F, 0x00, 0x00, 0x00, 0x00, 0x00⟩
    let q : SetupPacket := ⟨0xC0, 0x05, 0xFF, 0x01, 0x12, 0x34, 0x56, 0x78⟩
    q.rq = p.rq ∧ p.rq = 0x05#8 ∧ q.val.extractLsb' 0 7 = p.val.extractLsb' 0 7 := by decide

theorem witness_FieldsNoRowNamesAreIgnored_3 :
    let p : SetupPacket := ⟨0x00, 0x09, 0xFF, 0x00, 0x00, 0x00, 0x00, 0x00⟩
    let q : SetupPacket := ⟨0x00, 0x09, 0xFF, 0x01, 0x01, 0x00, 0x01, 0x00⟩
    q.rq = p.rq ∧ p.rq = 0x09#8 ∧ p.rt = 0x00#8 ∧ q.rt = 0x00#8 ∧ q.val.extractLsb' 0 8 = p.val.extractLsb' 0 8 := by decide

theorem witness_FieldsNoRowNamesAreIgnored_4 :
    let p : SetupPacket := ⟨0x80, 0x08, 0x00, 0x00, 0x00, 0x00, 0x01, 0x00⟩
    let q : SetupPacket := ⟨0x80, 0x08, 0x01, 0x00, 0x01, 0x00, 0x00, 0x00⟩
    q.rq = p.rq ∧ p.rq = 0x08#8 ∧ p.rt = 0x80#8 ∧ q.rt = 0x80#8 := by decide

theorem witness_FieldsNoRowNamesAreIgnored_5 :
    let p : SetupPacket := ⟨0x82, 0x00, 0x00, 0x00, 0x7F, 0x00, 0x02, 0x00⟩
    let q : SetupPacket := ⟨0x82, 0x00, 0x01, 0x00, 0xFF, 0x01, 0x00, 0x00⟩
    q.rq = p.rq ∧ p.rq = 0x00#8 ∧ p.rt = 0x82#8 ∧ q.rt = 0x82#8 ∧ q.idx.extractLsb' 0 7 = p.idx.extractLsb' 0 7 := by decide

theorem witness_FieldsNoRowNamesAreIgnored_6 :
    let p : SetupPacket := ⟨0x80, 0x00, 0x00, 0x00, 0x00, 0x00, 0x02, 0x00⟩
    let q : SetupPacket := ⟨0x81, 0x00, 0x01, 0x00, 0x01, 0x00, 0x01, 0x00⟩
    q.rq = p.rq ∧ p.rq = 0x00#8 ∧ p.rt ≠ 0x82#8 ∧ q.rt ≠ 0x82#8 := by decide

theorem witness_FieldsNoRowNamesAreIgnored_7 :
    let p : Byte → Byte → SetupPacket := fun c e => ⟨0x02, c, 0x00, 0x00, e, 0x00, 0x00, 0x00⟩
    let q : Byte → Byte → SetupPacket := fun c e => ⟨0x02, c, 0x00, 0x00, e ||| 0x80, 0x01, 0x01, 0x00⟩
    ∀ c ∈ ([1, 3] : List Byte), ∀ e ∈ ([1, 4] : List Byte), (q c e).rq = (p c e).rq ∧
      ((p c e).rq = 0x01#8 ∨ (p c e).rq = 0x03#8) ∧ (p c e).rt = 0x02#8 ∧ (q c e).rt = 0x02#8 ∧ (p c e).val = 0#16 ∧
      (q c e).val = 0#16 ∧ 1 ≤ ((p c e).idx.extractLsb' 0 7).toNat ∧ ((p c e).idx.extractLsb' 0 7).toNat ≤ 4 ∧
      (q c e).idx.extractLsb' 0 7 = (p c e).idx.extractLsb' 0 7 := by decide

theorem witness_FieldsNoRowNamesAreIgnored_8 :
    let p : Byte → SetupPacket := fun c => ⟨0xA1, c, 0x00, 0x01, 0x00, 0x00, 0x08, 0x00⟩
    let q : Byte → SetupPacket := fun c => ⟨0xA1, c, 0x01, 0x00, 0x00, 0x00, 0x02, 0x00⟩
    ∀ c ∈ ([1, 2, 3] : List Byte), (q c).rq = (p c).rq ∧
      ((p c).rq = 0x01#8 ∨ (p c).rq = 0x02#8 ∨ (p c).rq = 0x03#8) ∧ (p c).rt = 0xA1#8 ∧ (q c).rt = 0xA1#8 ∧
      (p c).idx = 0#16 ∧ (q c).idx = 0#16 := by decide

theorem witness_FieldsNoRowNamesAreIgnored_9 :
    let p : SetupPacket := ⟨0x21, 0x09, 0x00, 0x02, 0x00, 0x00, 0x01, 0x00⟩
    let q : SetupPacket := ⟨0x21, 0x09, 0x01, 0x03, 0x00, 0x00, 0x03, 0x00⟩
    q.rq = p.rq ∧ p.rq = 0x09#8 ∧ p.rt = 0x21#8 ∧ q.rt = 0x21#8 ∧ p.idx = 0#16 ∧ q.idx = 0#16 := by decide

theorem witness_FieldsNoRowNamesAreIgnored_10 :
    let p : SetupPacket := ⟨0x21, 0x0A, 0x00, 0xFF, 0x00, 0x00, 0x00, 0x00⟩
    let q : SetupPacket := ⟨0x21, 0x0A, 0xFF, 0xFF, 0x00, 0x00, 0x01, 0x00⟩
    q.rq = p.rq ∧ p.rq = 0x0A#8 ∧ p.rt = 0x21#8 ∧ q.rt = 0x21#8 ∧ p.idx = 0#16 ∧ q.idx = 0#16 ∧
      q.val.extractLsb' 8 8 = p.val.extractLsb' 8 8 := by decide

theorem witness_FieldsNoRowNamesAreIgnored_11 :
    let p : SetupPacket := ⟨0x21, 0x0B, 0xFF, 0x00, 0x00, 0x00, 0x00, 0x00⟩
    let q : SetupPacket := ⟨0x21, 0x0B, 0xFF, 0x01, 0x00, 0x00, 0x01, 0x00⟩
    q.rq = p.rq ∧ p.rq = 0x0B#8 ∧ p.rt = 0x21#8 ∧ q.rt = 0x21#8 ∧ p.idx = 0#16 ∧ q.idx = 0#16 ∧
      q.val.extractLsb' 0 8 = p.val.extractLsb' 0 8 := by decide

theorem witness_StallsAreTheUnclaimedPackets :
    let p : SetupPacket := ⟨0x02, 0x03, 0x00, 0x00, 0x85, 0x00, 0x00, 0x00⟩
    decode p = .stall .badFeatureTarget p ∧ stallCauseOf p = some .badFeatureTarget := by decide

theorem witness_UnknownDescriptorStalls :
    ∀ p ∈ ([⟨0x80, 0x06, 0x00, 0x03, 0x00, 0x00, 0xFF, 0x00⟩, ⟨0x80, 0x06, 0x01, 0x01, 0x00, 0x00, 0x12, 0x00⟩,
      ⟨0x81, 0x06, 0x00, 0x22, 0x00, 0x01, 0xFF, 0x00⟩] : List SetupPacket), p.rq = 0x06#8 ∧
      ¬(p.val = 0x0100#16 ∧ p.idx = 0#16) ∧ ¬(p.val = 0x0200#16 ∧ p.idx = 0#16) ∧
      ¬(p.val = 0x2200#16 ∧ p.idx = 0#16) ∧ ¬(p.val = 0x2100#16 ∧ p.idx = 0#16) := by decide

theorem witness_BadFeatureTargetStalls :
    let bad : SetupPacket → Prop := fun p => (p.rq = 0x01#8 ∨ p.rq = 0x03#8) ∧ p.rt = 0x02#8 ∧
      (p.val ≠ 0#16 ∨ (p.idx.extractLsb' 0 7).toNat = 0 ∨ 4 < (p.idx.extractLsb' 0 7).toNat)
    let other : SetupPacket → Prop := fun p => (p.rq = 0x01#8 ∨ p.rq = 0x03#8) ∧ p.rt ≠ 0x02#8 ∧ ¬(p.rt = 0xA1#8 ∧ p.idx = 0#16)
    bad ⟨0x02, 0x03, 0x00, 0x00, 0x00, 0x00, 0x00, 0x00⟩ ∧ bad ⟨0x02, 0x01, 0x00, 0x00, 0x05, 0x00, 0x00, 0x00⟩ ∧
      bad ⟨0x02, 0x01, 0x01, 0x00, 0x81, 0x00, 0x00, 0x00⟩ ∧ other ⟨0x00, 0x03, 0x01, 0x00, 0x00, 0x00, 0x00, 0x00⟩ ∧
      other ⟨0xA1, 0x01, 0x00, 0x01, 0x01, 0x00, 0x08, 0x00⟩ := by decide

theorem witness_StepRunsDecodedSetup :
    let s := latched ⟨0x80, 0x08, 0x00, 0x00, 0x00, 0x00, 0x01, 0x00⟩
    (at0 .setupReceived ep0).nextMove = .block ∧ (at0 .setupReceived ep0).ctl = .setupReceived ∧
    s.nextMove = .block ∧ s.ctl = .idle ∧ s.setupPending = true ∧ s.eps.ep0.en = true ∧ s.setupIe = true ∧
      s.resetPending = false ∧ s.sofPending = false := by decide

theorem witness_UnmetWaitHolds_1 :
    ∀ c ∈ ([.dataIn [], .statusIn, .statusInAddr 10, .addressWait 10] : List Ctl),
      let s := at0 c { ep0 with txq := [[]] }
      s.nextMove = .block ∧ s.ctl = c ∧ banksCount s.eps.ep0.banks ≤ s.eps.ep0.txq.length ∧
        (at0 c { ep0 with en := false }).eps.ep0.en = false := by decide

theorem witness_UnmetWaitHolds_2 :
    (at0 .dataOut ep0).nextMove = .block ∧ (at0 .dataOut ep0).ctl = .dataOut ∧ (at0 .dataOut ep0).eps.ep0.rxq = [] ∧
      (at0 .dataOut { ep0 with en := false }).eps.ep0.en = false := by decide

theorem witness_UnmetWaitHolds_3 :
    s0.nextMove = .block ∧ s0.ctl = .idle ∧ s0.resetPending = false ∧ s0.sofPending = false ∧ s0.setupPending = false ∧
      vPowerOn.eps.ep0.en = false ∧ vPowerOn.setupIe = false := by decide

theorem witness_FrameHandlerStepsFirst :
    let s : State := { latched ⟨0x80, 0x08, 0x00, 0x00, 0x00, 0x00, 0x01, 0x00⟩ with resetPending := true }
    s.nextMove = .block ∧ s.ctl = .idle ∧ s.resetPending = true ∧
      ({ s0 with sofPending := true } : State).sofPending = true := by decide

theorem witness_PlayedMovesAreSteps : ∃ as t, play [.hostSof, .block] s0 = some (as, t) := ⟨_, _, rfl⟩

theorem witness_DescriptorRequestsReadTheRom :
    (∀ a, a < 52 + s0.params.rptLen → (readCell s0.rom a).isSome = true) ∧
    (0 < min (0xFFFF#16).toNat 18 ∧ readCell ({ s0 with rom := [] } : State).rom (0x00 + 0) = none) ∧
    (33 < min (34#16).toNat 34 ∧ readCell (cellsFrom 0 ((romImage vp vd vrpt).take 51)) (0x12 + 33) = none) ∧
    (8 < min (9#16).toNat 9 ∧ readCell (cellsFrom 0 ((romImage vp vd vrpt).take 44)) (0x24 + 8) = none) ∧
    (0 < min (1#16).toNat s0.params.rptLen ∧ readCell (cellsFrom 0 ((romImage vp vd vrpt).take 52)) (0x34 + 0) = none) := by
  refine ⟨fun a ha => (rom_loaded s0 rfl rfl).2 a (by have : s0.params.rptLen = 63 := rfl; unfold romSize; omega), ?_⟩
  decide

theorem witness_SetConfigurationRebuildsTheSlots : AppEp.ep3 = s0.params.kbdEp ∧ AppEp.ep4 ≠ s0.params.kbdEp := by decide

theorem witness_EndpointStatusReportsHalt :
    (0#7).toNat = 0 ∧ (1#7).toNat = 1 ∧ (2#7).toNat = 2 ∧ (3#7).toNat = 3 ∧ (4#7).toNat = 4 ∧ 5 ≤ (5#7).toNat ∧
      5 ≤ (0x7F#7).toNat := by decide

theorem witness_InstructionsKeepTheirFrame :
    ∃ t, exec .getStatus s0 = .next t ∧ (∀ v, Instr.getStatus ≠ .setConfiguration v) ∧
      (∀ r, Instr.getStatus ≠ .hidSetIdle r) ∧ (∀ p, Instr.getStatus ≠ .hidSetProtocol p) ∧
      (∀ c p, Instr.getStatus ≠ .stall c p) ∧ (∀ a, Instr.getStatus ≠ setHaltInstr a ∧ Instr.getStatus ≠ clearHaltInstr a) :=
  ⟨_, rfl, nofun, nofun, nofun, nofun, fun a => by cases a <;> exact ⟨nofun, nofun⟩⟩

theorem witness_StatusStageArmsAnEmptyPacket :
    (at0 .statusIn ep0).nextMove = .block ∧ (at0 .statusIn ep0).ctl = .statusIn ∧ ep0.en = true ∧
      ep0.txq.length < banksCount ep0.banks := by decide

theorem witness_AddressIsWrittenAfterItsStatusPacket :
    (at0 (.statusInAddr 0x7F) ep0).ctl = .statusInAddr 0x7F ∧ (at0 (.addressWait 0) ep0).ctl = .addressWait 0 ∧
      (at0 (.addressWait 0) ep0).nextMove = .block ∧ ep0.en = true ∧ ep0.txq.length < banksCount ep0.banks := by decide

theorem witness_ChunkStepArmsAtMostOnePacket :
    ∀ n ∈ [0, 32, 33], let s := at0 (.dataIn (List.replicate n 1)) ep0
      s.nextMove = .block ∧ s.ctl = .dataIn (List.replicate n 1) ∧ s.eps.ep0.en = true ∧
      s.eps.ep0.txq.length < banksCount s.eps.ep0.banks ∧
      32 = (match s.params.ep0Size with | .b32 => 32 | .b64 => 64) ∧ min n 32 ≤ s.eps.ep0.size.bytes := by decide

theorem witness_SetReportStoresTheFirstByte :
    ∀ xs ∈ ([[], [5], [5, 0xAA, 0xBB]] : List (List Byte)), let s := at0 .dataOut { ep0 with rxq := [xs] }
      s.nextMove = .block ∧ s.ctl = .dataOut ∧ s.eps.ep0.en = true ∧ s.eps.ep0.rxq = xs :: [] := by decide

theorem witness_DataStageSendsItsBytesInPackets :
    ∀ n ∈ [0, 32, 33], let s := at0 (.dataIn (List.replicate n 1)) ep0
      s.ctl = .dataIn (List.replicate n 1) ∧ s.Ep0Default ∧ s.eps.ep0.halt = false ∧ s.eps.ep0.txq = [] ∧
      32 = s.eps.ep0.size.bytes ∧ max 1 ((n + 32 - 1) / 32) = if n ≤ 32 then 1 else 2 := by
  unfold State.Ep0Default
  decide

theorem witness_BusResetWorkRestoresEndpointZero :
    let s : State := { vPowerOn with resetPending := true }
    s.nextMove = .block ∧ s.ctl = .idle ∧ s.resetPending = true := by decide

theorem witness_StartOfFrameCountsQuarters :
    let s : State := { s0 with sofPending := true, fq := 2 }
    s.nextMove = .block ∧ s.ctl = .idle ∧ s.resetPending = false ∧ s.sofPending = true ∧ s.currentConfiguration ≠ 0 ∧
      s.fq ≠ 3 ∧ vPowerOn.currentConfiguration = 0 := by decide

theorem witness_IdleTickCountsAndReports :
    let s : Byte → Byte → Endpoint → State := fun c n e =>
      { withEp3 e with sofPending := true, fq := 3, idleConfig := c, idleCount := n }
    (s 0 0 ep3).nextMove = .block ∧ (s 0 0 ep3).ctl = .idle ∧ (s 0 0 ep3).resetPending = false ∧ (s 0 0 ep3).sofPending = true ∧
      (s 0 0 ep3).currentConfiguration ≠ 0 ∧ (s 0 0 ep3).fq = 3 ∧ (s 0 0 ep3).idleConfig = 0 ∧
    ((s 1 0 { ep3 with en := false }).ep (appNum vp.kbdEp)).en = false ∧
    (let k := (s 1 0 { ep3 with txq := [[]] }).ep (appNum vp.kbdEp); banksCount k.banks ≤ k.txq.length) ∧
    (let k := (s 1 0 ep3).ep (appNum vp.kbdEp); k.en = true ∧ k.txq.length < banksCount k.banks) ∧
    (s 1 0 ep3).idleConfig ≠ 0 ∧ (s 1 0 ep3).idleCount + 1 = (s 1 0 ep3).idleConfig ∧
    (s 0xFF 0 ep3).idleCount + 1 ≠ (s 0xFF 0 ep3).idleConfig := by decide

theorem witness_ReportEveryFourKInvocations :
    ∀ k ∈ [1, 255], let s : State := { s0 with idleConfig := BitVec.ofNat 8 k, idleCount := 0, fq := 3 }
      s.ctl = .idle ∧ s.resetPending = false ∧ s.currentConfiguration ≠ 0 ∧ s.idleConfig.toNat = k ∧ 1 ≤ k ∧
      s.idleCount = 0 ∧ (s.ep s.kbd).en = true ∧ (s.ep s.kbd).halt = false ∧ (s.ep s.kbd).txq = [] := by decide

theorem witness_UnacceptedTokensChangeNothing :
    (6#7 ≠ s0.address ∧ (host (.hostIn 6 0)).nextMove = .hostIn 6 0) ∧
    (4 < (5#4).toNat ∧ (host (.hostOut 5 5 [])).nextMove = .hostOut 5 5 []) ∧
    (0#4).toNat = 0 ∧ vPowerOn.eps.ep0.en = false ∧ (1#4).toNat = 1 ∧ s0.eps.ep1.en = false ∧
    (2#4).toNat = 2 ∧ s0.eps.ep2.en = false ∧ (3#4).toNat = 3 ∧ vPowerOn.eps.ep3.en = false ∧
    (4#4).toNat = 4 ∧ s0.eps.ep4.en = false ∧ (host (.hostSetup 5 4 [])).nextMove = .hostSetup 5 4 [] := by decide

theorem witness_SetupIsLatchedAndRestarts :
    (host (.hostSetup 5 0 [0x80, 0x08, 0, 0, 0, 0, 1, 0])).nextMove = .hostSetup s0.address 0 [0x80, 0x08, 0, 0, 0, 0, 1, 0] ∧
    s0.eps.ep0.en = true ∧ (host (.hostSetup 5 3 [0x80, 0x08, 0, 0, 0, 0, 1, 0])).nextMove =
      .hostSetup s0.address 3 [0x80, 0x08, 0, 0, 0, 0, 1, 0] ∧
    (host (.hostSetup 5 3 [])).nextMove = .hostSetup s0.address 3 [] ∧ 3#4 ≠ 0#4 ∧
    (host (.hostSetup 5 0 [0])).nextMove = .hostSetup s0.address 0 [0] ∧ ([0] : List Byte).length ≠ 8 := by decide

theorem witness_InTakesTheOldestPacket :
    let s : State := { withEp3 { ep3 with halt := true } with env := [.hostIn 5 3] }
    let t : State := { withEp3 { ep3 with txq := [[1], [2]] } with env := [.hostIn 5 3] }
    s.nextMove = .hostIn s.address 3 ∧ epOfToken 3 = some .e3 ∧ (s.ep .e3).en = true ∧ (s.ep .e3).halt = true ∧
    (s0.ep .e3).halt = false ∧ (s0.ep .e3).txq = [] ∧
    t.nextMove = .hostIn t.address 3 ∧ (t.ep .e3).halt = false ∧ (t.ep .e3).txq = [1] :: [[2]] := by decide

theorem witness_OutIsHeldOrAnswered :
    let s : Endpoint → Nat → State := fun e n => { at0 .idle e with env := [.hostOut 5 0 (List.replicate n 7)] }
    (s ep0 33).nextMove = .hostOut (s ep0 33).address 0 (List.replicate 33 7) ∧ epOfToken 0 = some .e0 ∧
    ((s ep0 33).ep .e0).en = true ∧ ((s ep0 33).ep .e0).size.bytes < (List.replicate 33 (7 : Byte)).length ∧
    (List.replicate 32 (7 : Byte)).length ≤ ((s ep0 32).ep .e0).size.bytes ∧ ((s ep0 32).ep .e0).dir = .both ∧
    (s0.ep .e3).dir = .in ∧ epOfToken 3 = some .e3 ∧ ((s { ep0 with halt := true } 0).ep .e0).halt = true ∧
    ((s { ep0 with rxq := [[]] } 0).ep .e0).rxq.length = banksCount ep0.banks ∧
    ((s ep0 0).ep .e0).rxq.length ≠ banksCount ((s ep0 0).ep .e0).banks := by decide

theorem witness_BusResetActsAtTheEvent : (host .hostReset).nextMove = .hostReset := by decide

theorem witness_StartOfFrameSetsItsPendingBit : (host .hostSof).nextMove = .hostSof := by decide

theorem witness_ApplicationWritesKeysAndReadsLeds :
    let s : State := { s0 with params := { vp with appWritesKeys := true }, env := [.appWrite .key5 0xFF] }
    s.nextMove = .appWrite .key5 0xFF ∧ s.params.appWritesKeys = true ∧ s.ctl = .idle ∧
    s0.params.appWritesKeys = false ∧ (at0 .dataOut ep0).ctl ≠ .idle ∧ (host .appReadLeds).nextMove = .appReadLeds := by decide

theorem witness_StepKeepsTheInvariant :
    s0.Inv ∧ (∃ t, step s0 = .next t) ∧ ({ s0 with sofPending := true } : State).Inv ∧
      ∃ t, step { s0 with sofPending := true } = .next t :=
  ⟨s0_inv [] false false false _, ⟨_, rfl⟩, s0_inv [] false true false _, ⟨_, rfl⟩⟩

theorem witness_NoModelFaultIsReached :
    s0.Inv ∧ s0.nextMove = .block ∧ (host (.hostSetup 5 0 [])).Inv ∧
      step (host (.hostSetup 5 0 [])) = .refused .setupNotEightBytes ∧ (host (.hostOut 5 0 (List.replicate 33 0))).Inv ∧
      step (host (.hostOut 5 0 (List.replicate 33 0))) = .refused .oversizeOut :=
  ⟨s0_inv [] false false false _, rfl, s0_inv _ false false false _, rfl, s0_inv _ false false false _, rfl⟩

theorem witness_RomAndParametersNeverChange : ∃ t, step s0 = .next t := ⟨_, rfl⟩

theorem witness_ControlTransitionsAreTheListed_1 :
    let f : State := { s0 with sofPending := true }
    (∃ t, step f = .next t ∧ f.nextMove = .block ∧ f.frameEnabled = true) ∧
    (∃ t, step s0 = .next t ∧ s0.nextMove = .block ∧ s0.dispatcherEnabled = false) ∧
    (∀ p ∈ ([⟨0x00, 0x07, 0, 0, 0, 0, 0, 0⟩, ⟨0x00, 0x05, 0x0A, 0, 0, 0, 0, 0⟩, ⟨0x21, 0x09, 0x00, 0x02, 0, 0, 1, 0⟩,
        ⟨0x80, 0x06, 0x00, 0x01, 0, 0, 0x12, 0⟩, ⟨0x00, 0x09, 0x01, 0, 0, 0, 0, 0⟩] : List SetupPacket),
      (after (latched p) fun _ => ()) = some () ∧ (latched p).nextMove = .block ∧ (latched p).frameEnabled = false ∧
      (latched p).dispatcherEnabled = true ∧ (latched p).ctl = .idle) :=
  ⟨⟨_, rfl, rfl, rfl⟩, ⟨_, rfl, rfl, rfl⟩, by decide⟩

theorem witness_ControlTransitionsAreTheListed_2 :
    ∀ c ∈ ([.setupReceived, .dataIn [], .dataIn (List.replicate 32 1), .dataIn (List.replicate 33 1), .statusIn,
        .statusInAddr 0x7F, .addressWait 0, .dataOut] : List Ctl),
      let s := at0 c { ep0 with rxq := [[1]] }
      (after s fun _ => ()) = some () ∧ s.nextMove = .block ∧ s.frameEnabled = false ∧ s.dispatcherEnabled = true ∧ s.ctl = c := by
  decide

theorem witness_ControlTransitionsAreTheListed_3 :
    ∀ m ∈ ([.hostSetup 5 0 [0x80, 0x08, 0, 0, 0, 0, 1, 0], .hostSetup 6 0 [], .hostReset, .hostSof, .hostIn 5 0,
        .hostOut 5 0 [1], .appWrite .key5 1, .appReadLeds] : List Move),
      let s : State := { at0 (.dataIn [1]) ep0 with env := [m] }
      (after s fun _ => ()) = some () ∧ s.nextMove = m := by decide

theorem witness_EachAgentWritesOnlyItsState_1 :
    let f : State := { s0 with sofPending := true, fq := 3, idleConfig := 4 }
    (∃ t, step f = .next t ∧ f.nextMove = .block ∧ f.frameEnabled = true ∧ f.resetPending = false ∧
      AppEp.ep1 ≠ f.params.kbdEp) ∧
    ∃ t, step (at0 .statusIn ep0) = .next t ∧ (at0 .statusIn ep0).nextMove = .block ∧ (at0 .statusIn ep0).frameEnabled = false :=
  ⟨⟨_, rfl, rfl, rfl, rfl, by decide⟩, ⟨_, rfl, rfl, rfl⟩⟩

theorem witness_EachAgentWritesOnlyItsState_2 :
    ∀ m ∈ ([.hostSof, .hostIn 5 0, .hostOut 5 0 [1], .hostSetup 5 0 [0x80, 0x08, 0, 0, 0, 0, 1, 0], .hostReset,
        .appReadLeds, .appWrite .key5 0xFF] : List Move),
      let s : State := { s0 with env := [m], setupPending := true, params := { vp with appWritesKeys := true } }
      (after s fun _ => ()) = some () ∧ s.nextMove = m ∧ s.setupPending = true := by decide

theorem witness_EachAgentWritesOnlyItsState_3 :
    let s : State := { s0 with env := [.appWrite .key5 0xFF], params := { vp with appWritesKeys := true } }
    s.nextMove = .appWrite .key5 0xFF ∧ (after s fun t => decide (t.keys ≠ s.keys)) = some true := by decide

theorem witness_AddressChangesOnlyThen :
    (∃ t, step (at0 (.addressWait 10) ep0) = .next t ∧ t.address ≠ (at0 (.addressWait 10) ep0).address) ∧
    ∃ t, step (host .hostReset) = .next t ∧ t.address ≠ (host .hostReset).address :=
  ⟨⟨_, rfl, by decide⟩, ⟨_, rfl, by decide⟩⟩

theorem witness_EndpointsAreEnabledOnlySo :
    (∃ t, step { withEp3 .powerOn with setupBuf := ⟨0x00, 0x09, 0x01, 0, 0, 0, 0, 0⟩, setupPending := true } = .next t ∧
      ((withEp3 .powerOn).ep (appNum .ep3)).en = false ∧ (t.ep (appNum .ep3)).en = true) ∧
    (∃ t, step s0 = .next t ∧ s0.eps.ep0.en = true) ∧
    ∃ t, step { vPowerOn with resetPending := true } = .next t ∧ vPowerOn.eps.ep0.en = false ∧ t.eps.ep0.en = true :=
  ⟨⟨_, rfl, by decide, by decide⟩, ⟨_, rfl, by decide⟩, ⟨_, rfl, by decide, by decide⟩⟩

theorem witness_ProtocolHasNoEffect_1 :
    let s := latched ⟨0xA1, 0x01, 0x00, 0x01, 0x00, 0x00, 0x08, 0x00⟩
    (∃ t, step s = .next t) ∧ s.nextMove = .block ∧ s.frameEnabled = false ∧ s.dispatcherEnabled = true ∧ s.ctl = .idle ∧
      decode s.setupBuf ≠ .hidGetProtocol ∧ ∀ p, decode s.setupBuf ≠ .hidSetProtocol p :=
  ⟨⟨_, rfl⟩, rfl, rfl, rfl, rfl, by decide, fun p => by rw [show decode _ = Instr.hidGetReport by decide]; exact nofun⟩

/-- The idle report armed while `setup_buf` still holds a SET_PROTOCOL packet is no decode. -/
theorem witness_ProtocolHasNoEffect_2 :
    let s : State := { s0 with sofPending := true, fq := 3, idleConfig := 4, setupBuf := encode (.hidSetProtocol 0) }
    (∃ t, step s = .next t) ∧ s.nextMove = .block ∧ ¬s.frameEnabled = false :=
  ⟨⟨_, rfl⟩, rfl, by decide⟩

theorem witness_LastStallIsNeverRead :
    ∃ t, step (latched ⟨0x00, 0x07, 0x00, 0x01, 0x00, 0x00, 0x12, 0x00⟩) = .next t := ⟨_, rfl⟩

theorem witness_SetAddressTransfer :
    s0.Ready ∧ decode ⟨0x00, 0x05, 0x0A, 0x00, 0x00, 0x00, 0x00, 0x00⟩ = .setAddress 10 := ⟨s0_ready, by decide⟩

theorem witness_AbortedSetAddressLeavesTheAddress :
    (at0 (.statusInAddr 10) ep0).ctl = .statusInAddr 10 ∧ (at0 (.addressWait 10) ep0).ctl = .addressWait 10 ∧
      ep0.en = true ∧ (at0 (.statusInAddr 10) ep0).RomLoaded ∧ (at0 (.addressWait 10) ep0).RomLoaded :=
  ⟨rfl, rfl, rfl, rom_loaded _ rfl rfl, rom_loaded _ rfl rfl⟩

theorem witness_ConfigurationReadsBack :
    s0.Ready ∧ decode ⟨0x00, 0x09, 0xFF, 0x00, 0x00, 0x00, 0x00, 0x00⟩ = .setConfiguration 0xFF ∧
      decode ⟨0x80, 0x08, 0x00, 0x00, 0x00, 0x00, 0x01, 0x00⟩ = .getConfiguration := ⟨s0_ready, by decide, by decide⟩

theorem witness_HidRegistersReadBack :
    s0.Ready ∧ decode ⟨0x21, 0x0A, 0x00, 0x7D, 0x00, 0x00, 0x00, 0x00⟩ = .hidSetIdle 0x7D ∧
      decode ⟨0xA1, 0x02, 0x00, 0x00, 0x00, 0x00, 0x01, 0x00⟩ = .hidGetIdle ∧
      decode ⟨0x21, 0x0B, 0x00, 0x00, 0x00, 0x00, 0x00, 0x00⟩ = .hidSetProtocol 0 ∧
      decode ⟨0xA1, 0x03, 0x00, 0x00, 0x00, 0x00, 0x01, 0x00⟩ = .hidGetProtocol ∧
      decode ⟨0x21, 0x09, 0x00, 0x02, 0x00, 0x00, 0x01, 0x00⟩ = .hidSetReport ∧
      ((0x02 : Byte) :: List.replicate 31 0).length ≤ s0.eps.ep0.size.bytes :=
  ⟨s0_ready, by decide, by decide, by decide, by decide, by decide, by decide⟩

theorem witness_HaltShowsUntilCleared :
    s0.Ready ∧ (s0.ep (appNum .ep3)).en = true ∧ (s0.ep (appNum .ep3)).txq = [] ∧
      decode ⟨0x02, 0x03, 0x00, 0x00, 0x83, 0x00, 0x00, 0x00⟩ = setHaltInstr .ep3 ∧
      decode ⟨0x02, 0x01, 0x00, 0x00, 0x83, 0x00, 0x00, 0x00⟩ = clearHaltInstr .ep3 ∧
      decode ⟨0x82, 0x00, 0x00, 0x00, 0x83, 0x00, 0x02, 0x00⟩ = .getStatusEndpoint 3 ∧
      (3#7).toNat = (tokenOf .ep3).toNat :=
  ⟨s0_ready, by decide, by decide, by decide, by decide, by decide, by decide⟩

theorem witness_StalledEndpointTakesTheNextSetup :
    s0.Ready ∧ decode ⟨0x00, 0x07, 0x00, 0x01, 0x00, 0x00, 0x12, 0x00⟩ =
      .stall .unsupported ⟨0x00, 0x07, 0x00, 0x01, 0x00, 0x00, 0x12, 0x00⟩ := ⟨s0_ready, by decide⟩

theorem witness_EndpointZeroStatusIsZero :
    let s := latched ⟨0x82, 0x00, 0x00, 0x00, 0x00, 0x00, 0x02, 0x00⟩
    s.Inv ∧ s.nextMove = .block ∧ s.frameEnabled = false ∧ s.dispatcherEnabled = true ∧ s.ctl = .idle ∧
      decode s.setupBuf = .getStatusEndpoint 0 :=
  ⟨s0_inv [] false false true _, by decide, by decide, by decide, by decide, by decide⟩

theorem witness_BusResetInTwoParts : s0.params.resetInWait = .abort := by decide

end Sys2Proof.Tests
end

section
/-! SUPPORT. Turns of the block: which handler a turn runs, and when it holds (00_scope.md R7, R11,
41_dispatcher.md R101, 60_exceptions.md R176). -/
namespace Sys2Proof.Machine

/-! ### A move taken off `env` -/

@[simp] theorem popMove_frameEnabled (s : State) : s.popMove.frameEnabled = s.frameEnabled := rfl

@[simp] theorem popMove_dispatcherEnabled (s : State) : s.popMove.dispatcherEnabled = s.dispatcherEnabled := rfl

@[simp] theorem popMove_appWriteEnabled (s : State) : s.popMove.appWriteEnabled = s.appWriteEnabled := rfl

theorem step_of_nextMove {s : State} {m : Move} (h : s.nextMove = m) : step s = runMove m s.popMove := by
  rw [step_eq, h]

/-! ### The handlers' enables -/

theorem txReady_eq_false_iff (e : Endpoint) :
    e.txReady = false ↔ e.en = false ∨ banksCount e.banks ≤ e.txq.length := by
  rw [← Bool.not_eq_true, txReady_iff, not_and_or, Bool.not_eq_true, not_lt]

theorem rxReady_eq_false_iff (e : Endpoint) : e.rxReady = false ↔ e.en = false ∨ e.rxq = [] := by
  rw [← Bool.not_eq_true, rxReady_iff, not_and_or, Bool.not_eq_true, not_ne_iff]

theorem frameEnabled_of_ctl_ne_idle {s : State} (h : s.ctl ≠ .idle) : s.frameEnabled = false := by
  simp [State.frameEnabled, h]

theorem frameEnabled_of_not_pending {s : State} (h : s.framePending = false) : s.frameEnabled = false := by
  simp [State.frameEnabled, h]

/-- In the control states that arm a packet, and in the wait for the address, the dispatcher waits for
endpoint 0's bank (41_dispatcher.md R101). -/
theorem dispatcherEnabled_of_bankWait {s : State}
    (h : (∃ rest, s.ctl = .dataIn rest) ∨ s.ctl = .statusIn ∨ (∃ a, s.ctl = .statusInAddr a) ∨
      ∃ a, s.ctl = .addressWait a) :
    s.ctl ≠ .idle ∧ s.dispatcherEnabled = s.txReady .e0 := by
  rcases h with ⟨rest, h⟩ | h | ⟨a, h⟩ | ⟨a, h⟩ <;> simp [State.dispatcherEnabled, h]

theorem dispatcherEnabled_of_dataOut {s : State} (h : s.ctl = .dataOut) :
    s.dispatcherEnabled = s.rxReady .e0 := by
  simp [State.dispatcherEnabled, h]

theorem dispatcherEnabled_of_idle {s : State} (h : s.ctl = .idle) :
    s.dispatcherEnabled = (s.setupPending && s.setupSourceEnabled && !s.framePending) := by
  simp [State.dispatcherEnabled, h]

theorem appWriteEnabled_iff {s : State} :
    s.appWriteEnabled = true ↔ s.params.appWritesKeys = true ∧ s.ctl = .idle := by
  rw [State.appWriteEnabled, Bool.and_eq_true, decide_eq_true_eq]

theorem appWriteEnabled_eq_false_iff {s : State} :
    s.appWriteEnabled = false ↔ s.params.appWritesKeys = false ∨ s.ctl ≠ .idle := by
  rw [State.appWriteEnabled, Bool.and_eq_false_iff, decide_eq_false_iff_not]

/-! ### What a turn does -/

/-- A block turn with neither handler enabled only takes the move off `env` (log entry 2). -/
theorem step_of_nothing_enabled {s : State} (hm : s.nextMove = .block) (hf : s.frameEnabled = false)
    (hd : s.dispatcherEnabled = false) : step s = .next s.popMove := by
  rw [step_of_nextMove hm]
  simp [runMove, blockStep, hf, hd]

/-! The three ways a SOF's work ends (40_frame_and_reset.md R91). -/

theorem sofWork_of_unconfigured {s : State} (hc : s.currentConfiguration = 0#8) :
    s.sofWork = .ok (s.setSofPending false) := by
  simp [State.sofWork, hc]

theorem sofWork_of_no_tick {s : State} (hc : s.currentConfiguration ≠ 0#8) (hq : s.fq + 1#2 ≠ 0#2) :
    s.sofWork = .ok ((s.setSofPending false).setFq (s.fq + 1#2)) := by
  simp [State.sofWork, hc, hq]

theorem sofWork_of_tick {s : State} (hc : s.currentConfiguration ≠ 0#8) (hq : s.fq + 1#2 = 0#2) :
    s.sofWork = ((s.setSofPending false).setFq 0#2).idleTick := by
  simp [State.sofWork, hc, hq]

/-- The application's write where it may write (00_scope.md R12). -/
theorem appWriteEvent_of_enabled {s : State} (slot : KeySlot) (v : Byte) (h : s.appWriteEnabled = true) :
    appWriteEvent slot v s = .next ((s.setKeys (s.keys.write slot v)).setAnswer .silent) := by
  rw [appWriteEvent, if_pos h]

/-- A write that the application may not do is dropped (log entry 8). -/
theorem appWriteEvent_of_not_enabled {s : State} (slot : KeySlot) (v : Byte) (h : s.appWriteEnabled = false) :
    appWriteEvent slot v s = .next (s.setAnswer .silent) := by
  rw [appWriteEvent, if_neg (by simp [h])]

end Sys2Proof.Machine
end

section
/-! SUPPORT. No move reads or writes `env`: it commutes with any other value of that field, and so keeps it
(log entry 2). -/
namespace Sys2Proof.Machine

/-- An outcome with `env` replaced in its next state. -/
def resultWithEnv (e : List Move) : Result → Result
  | .next s => .next (s.setEnv e)
  | .fault f => .fault f
  | .refused r => .refused r

section
variable (s : State) (e : List Move)

@[simp] theorem setEnv_frameEnabled : (s.setEnv e).frameEnabled = s.frameEnabled := rfl
@[simp] theorem setEnv_dispatcherEnabled : (s.setEnv e).dispatcherEnabled = s.dispatcherEnabled := rfl
@[simp] theorem setEnv_appWriteEnabled : (s.setEnv e).appWriteEnabled = s.appWriteEnabled := rfl

theorem resultOf_map_setEnv (r : Except Fault State) :
    resultOf (r.map (·.setEnv e)) = resultWithEnv e (resultOf r) := by
  cases r <;> rfl

/-! ### The handlers' operations -/

theorem armTx_setEnv (i : EpNum) (xs : List Byte) :
    (s.setEnv e).armTx i xs = (s.armTx i xs).map (·.setEnv e) := by
  show (if s.txReady i = false then _ else if (s.ep i).size.bytes < xs.length then _ else _) = _
  unfold State.armTx
  split
  · rfl
  · split <;> rfl

theorem rxRead_setEnv (i : EpNum) :
    (s.setEnv e).rxRead i = ((s.rxRead i).1, (s.rxRead i).2.setEnv e) := by
  unfold State.rxRead
  rw [State.setEnv_ep]
  split <;> rfl

theorem idleTick_setEnv : (s.setEnv e).idleTick = s.idleTick.map (·.setEnv e) := by
  show (if s.idleConfig ≠ 0#8 ∧ s.txReady s.kbd = true then
    if s.idleCount + 1#8 = s.idleConfig then ((s.setIdleCount 0).setEnv e).armTx s.kbd s.keys.report
    else _ else _) = _
  unfold State.idleTick
  split
  · split
    · exact armTx_setEnv (s.setIdleCount 0) e s.kbd s.keys.report
    · rfl
  · rfl

theorem sofWork_setEnv : (s.setEnv e).sofWork = s.sofWork.map (·.setEnv e) := by
  by_cases hc : s.currentConfiguration = 0#8
  · rw [sofWork_of_unconfigured hc, sofWork_of_unconfigured (s := s.setEnv e) hc]
    rfl
  · by_cases hq : s.fq + 1#2 = 0#2
    · rw [sofWork_of_tick hc hq, sofWork_of_tick (s := s.setEnv e) hc hq]
      exact idleTick_setEnv ((s.setSofPending false).setFq 0#2) e
    · rw [sofWork_of_no_tick hc hq, sofWork_of_no_tick (s := s.setEnv e) hc hq]
      rfl

theorem frameStep_setEnv : (s.setEnv e).frameStep = s.frameStep.map (·.setEnv e) := by
  have ht : (if (s.setEnv e).resetPending then (s.setEnv e).resetWork else s.setEnv e)
      = (if s.resetPending then s.resetWork else s).setEnv e := by
    rw [State.setEnv_resetPending]
    split <;> rfl
  unfold State.frameStep
  rw [ht]
  generalize (if s.resetPending = true then s.resetWork else s) = t
  dsimp only
  rw [State.setEnv_sofPending]
  cases t.sofPending with
  | false => rfl
  | true => exact sofWork_setEnv t e

/-! ### The dispatcher's steps -/

theorem getDescriptor_setEnv (t : DescTable) (len : U16) :
    getDescriptor t len (s.setEnv e) = resultWithEnv e (getDescriptor t len s) := by
  have hr : (s.setEnv e).memRead = s.memRead := rfl
  unfold getDescriptor
  rw [hr, State.setEnv_params]
  split <;> rfl

theorem exec_setEnv (i : Instr) : exec i (s.setEnv e) = resultWithEnv e (exec i s) := by
  cases i
  case getDescriptorDevice len => exact getDescriptor_setEnv s e .device len
  case getDescriptorConfiguration len => exact getDescriptor_setEnv s e .configuration len
  case getDescriptorHid len => exact getDescriptor_setEnv s e .hid len
  case getDescriptorReport len => exact getDescriptor_setEnv s e .report len
  all_goals rfl

theorem chunkStep_setEnv (rest : List Byte) :
    chunkStep rest (s.setEnv e) = (chunkStep rest s).map (·.setEnv e) := by
  unfold chunkStep
  dsimp only [State.setEnv_params]
  rw [armTx_setEnv]
  generalize s.armTx .e0 _ = r
  cases r <;> rfl

theorem statusStep_setEnv : statusStep (s.setEnv e) = (statusStep s).map (·.setEnv e) := by
  unfold statusStep
  rw [armTx_setEnv]
  cases s.armTx .e0 [] <;> rfl

theorem statusAddrStep_setEnv (a : U7) :
    statusAddrStep a (s.setEnv e) = (statusAddrStep a s).map (·.setEnv e) := by
  unfold statusAddrStep
  rw [armTx_setEnv]
  cases s.armTx .e0 [] <;> rfl

theorem reportByteStep_setEnv : reportByteStep (s.setEnv e) = (reportByteStep s).setEnv e := by
  unfold reportByteStep
  rw [rxRead_setEnv]
  rfl

theorem dispatcherStep_setEnv : dispatcherStep (s.setEnv e) = resultWithEnv e (dispatcherStep s) := by
  unfold dispatcherStep
  rw [State.setEnv_ctl]
  split
  · exact exec_setEnv (s.setSetupPending false) e _
  · exact exec_setEnv (s.setSetupPending false) e _
  · rw [chunkStep_setEnv, resultOf_map_setEnv]
  · rw [reportByteStep_setEnv]; rfl
  · rw [statusStep_setEnv, resultOf_map_setEnv]
  · rw [statusAddrStep_setEnv, resultOf_map_setEnv]
  · rfl

theorem blockStep_setEnv : blockStep (s.setEnv e) = resultWithEnv e (blockStep s) := by
  unfold blockStep
  rw [setEnv_frameEnabled, setEnv_dispatcherEnabled]
  split
  · rw [frameStep_setEnv, resultOf_map_setEnv]
  · split
    · exact dispatcherStep_setEnv s e
    · rfl

/-! ### The environment's moves -/

theorem latchSetup_setEnv (p : SetupPacket) : (s.setEnv e).latchSetup p = (s.latchSetup p).setEnv e := by
  unfold State.latchSetup
  dsimp only [State.setSetupPending, State.setToggle, State.dropPackets, State.clearStall, State.setSetupBuf,
    State.setEp, State.setEps, State.setEnv]
  split <;> rfl

theorem takeIn_setEnv (i : EpNum) : (s.setEnv e).takeIn i = (s.takeIn i).setEnv e := by
  unfold State.takeIn
  rw [State.setEnv_ep]
  split
  · rfl
  · split <;> rfl

theorem takeOut_setEnv (i : EpNum) (xs : List Byte) : (s.setEnv e).takeOut i xs = (s.takeOut i xs).setEnv e := by
  unfold State.takeOut
  rw [State.setEnv_ep]
  split
  · rfl
  · split
    · rfl
    · split <;> rfl

theorem busReset_setEnv : (s.setEnv e).busReset = s.busReset.setEnv e := by
  unfold State.busReset
  dsimp only [State.setEnv, State.setResetPending, State.setSetupPending, State.disableApp, State.setEps,
    State.setAddress]
  split <;> rfl

theorem accepts_setEnv (addr : U7) (n : BitVec 4) : (s.setEnv e).accepts addr n = s.accepts addr n := rfl

theorem hostSetupEvent_setEnv (addr : U7) (n : BitVec 4) (bytes : List Byte) :
    hostSetupEvent addr n bytes (s.setEnv e) = resultWithEnv e (hostSetupEvent addr n bytes s) := by
  unfold hostSetupEvent
  rw [accepts_setEnv]
  split
  · split
    · rw [latchSetup_setEnv]; rfl
    · rfl
  · rfl

theorem hostInEvent_setEnv (addr : U7) (n : BitVec 4) :
    hostInEvent addr n (s.setEnv e) = resultWithEnv e (hostInEvent addr n s) := by
  unfold hostInEvent
  rw [accepts_setEnv]
  split
  · rw [takeIn_setEnv]; rfl
  · rfl

theorem hostOutEvent_setEnv (addr : U7) (n : BitVec 4) (xs : List Byte) :
    hostOutEvent addr n xs (s.setEnv e) = resultWithEnv e (hostOutEvent addr n xs s) := by
  unfold hostOutEvent
  rw [accepts_setEnv]
  split
  · rw [State.setEnv_ep]
    split
    · rfl
    · rw [takeOut_setEnv]; rfl
  · rfl

theorem hostResetEvent_setEnv : hostResetEvent (s.setEnv e) = resultWithEnv e (hostResetEvent s) := by
  unfold hostResetEvent
  rw [busReset_setEnv]
  rfl

theorem appWriteEvent_setEnv (slot : KeySlot) (v : Byte) :
    appWriteEvent slot v (s.setEnv e) = resultWithEnv e (appWriteEvent slot v s) := by
  unfold appWriteEvent
  rw [setEnv_appWriteEnabled]
  split <;> rfl

/-- A move does the same whatever moves are still to come (20_memory.md R62, log entry 2). -/
theorem runMove_setEnv (m : Move) : runMove m (s.setEnv e) = resultWithEnv e (runMove m s) := by
  cases m with
  | block => exact blockStep_setEnv s e
  | hostSetup addr n p => exact hostSetupEvent_setEnv s e addr n p
  | hostIn addr n => exact hostInEvent_setEnv s e addr n
  | hostOut addr n xs => exact hostOutEvent_setEnv s e addr n xs
  | hostSof => rfl
  | hostReset => exact hostResetEvent_setEnv s e
  | appWrite slot v => exact appWriteEvent_setEnv s e slot v
  | appReadLeds => rfl
end

theorem runMove_setEnv_of_next {m : Move} {s t : State} (h : runMove m s = .next t) (e : List Move) :
    runMove m (s.setEnv e) = .next (t.setEnv e) := by
  rw [runMove_setEnv, h]
  rfl

/-- No move writes `env`: replacing it by itself before the move is replacing it after. -/
theorem runMove_env {m : Move} {s t : State} (h : runMove m s = .next t) : t.env = s.env := by
  have h' : runMove m s = .next (t.setEnv s.env) := runMove_setEnv_of_next h s.env
  rw [h] at h'
  injection h' with ht
  rw [ht, State.setEnv_env]

/-- With a move in front of `env`, a step is that move and leaves the moves behind it. -/
theorem step_cons_of_runMove {m : Move} {s t : State} (h : runMove m s = .next t) (ms : List Move) :
    step (s.setEnv (m :: ms)) = .next (t.setEnv ms) :=
  runMove_setEnv_of_next h ms

/-- All that a play of at least one move says: the move ends in a state, and the rest plays on from it. -/
theorem play_cons {m : Move} {ms : List Move} {s u : State} {as : List Answer}
    (h : play (m :: ms) s = some (as, u)) :
    ∃ t bs, runMove m s = .next t ∧ play ms t = some (bs, u) ∧ as = if m = .block then bs else t.answer :: bs := by
  unfold play at h
  split at h
  next t ht =>
    split at h
    next bs u' hp =>
      cases h
      exact ⟨t, bs, ht, hp, rfl⟩
    next => cases h
  next => cases h

/-- Playing `ms` is as many steps from a state whose `env` begins with `ms`. -/
theorem run_eq_of_play {ms : List Move} {s t : State} {as : List Answer} (h : play ms s = some (as, t)) :
    Host.Core.run core ms.length (s.setEnv (ms ++ s.env)) = .next t := by
  induction ms generalizing s as with
  | nil => cases h; rfl
  | cons m ms ih =>
    obtain ⟨u, bs, hm, hp, -⟩ := play_cons h
    have hs : core.step (s.setEnv (m :: (ms ++ s.env))) = .next (u.setEnv (ms ++ u.env)) := by
      rw [runMove_env hm]
      exact step_cons_of_runMove hm (ms ++ s.env)
    simp only [List.length_cons, List.cons_append, Host.Core.run, hs]
    exact ih hp

end Sys2Proof.Machine
end

section
/-! PROOFS. Who steps, how the moves interleave, and what the application may do (00_scope.md). -/
namespace Sys2Proof.Proofs
open Machine

/-- Settles O11: each disjunct of the hypothesis leaves both handlers disabled, so the turn holds. -/
theorem unmetWaitHolds : Obligations.UnmetWaitHolds := by
  unfold Obligations.UnmetWaitHolds
  rintro s hm (⟨hc, hw⟩ | ⟨hc, hw⟩ | ⟨hc, hr, hs, hw⟩)
  · obtain ⟨hne, hd⟩ := dispatcherEnabled_of_bankWait hc
    exact step_of_nothing_enabled hm (frameEnabled_of_ctl_ne_idle hne)
      (hd.trans ((txReady_eq_false_iff _).mpr hw))
  · exact step_of_nothing_enabled hm (frameEnabled_of_ctl_ne_idle (by simp [hc]))
      ((dispatcherEnabled_of_dataOut hc).trans ((rxReady_eq_false_iff _).mpr hw))
  · have hp : s.framePending = false := by simp [State.framePending, hr, hs]
    have hsrc : (s.setupPending && s.setupSourceEnabled) = false := by
      rw [State.setupSourceEnabled, Bool.and_eq_false_iff, Bool.and_eq_false_iff]
      exact hw
    exact step_of_nothing_enabled hm (frameEnabled_of_not_pending hp)
      (by rw [dispatcherEnabled_of_idle hc, hsrc, Bool.false_and])

/-- Settles O13, by induction on the moves: each is one step, since no move reads or writes `env`. -/
theorem playedMovesAreSteps : Obligations.PlayedMovesAreSteps := by
  unfold Obligations.PlayedMovesAreSteps
  intro ms s t as h
  exact run_eq_of_play h

/-- Settles O39, by the enable of the application's write step. -/
theorem applicationWritesKeysAndReadsLeds : Obligations.ApplicationWritesKeysAndReadsLeds := by
  unfold Obligations.ApplicationWritesKeysAndReadsLeds
  intro s slot v
  refine ⟨fun hm ha hc => ?_, fun hm hn => ?_, fun hm => ?_⟩
  · rw [step_of_nextMove hm]
    refine (appWriteEvent_of_enabled (s := s.popMove) slot v (appWriteEnabled_iff.mpr ⟨ha, hc⟩)).trans ?_
    cases slot <;> rfl
  · rw [step_of_nextMove hm]
    exact appWriteEvent_of_not_enabled slot v (appWriteEnabled_eq_false_iff.mpr hn)
  · rw [step_of_nextMove hm]
    rfl

end Sys2Proof.Proofs
end

section
/-! SUPPORT. What each agent's work can do, once, in the named updates of `State`: the frame handler
(40_frame_and_reset.md), the dispatcher (41_dispatcher.md R104) and the host (45_endpoint_engine.md). -/
namespace Sys2Proof.Machine

/-! ### Updates of one endpoint -/

/-- The packets of `ps` armed on endpoint `i` behind those that are (45_endpoint_engine.md R159). -/
abbrev State.appendTx (s : State) (i : EpNum) (ps : List (List Byte)) : State :=
  s.setEp i { s.ep i with txq := (s.ep i).txq ++ ps }

@[simp] theorem setEp_ep_self (s : State) (i : EpNum) : s.setEp i (s.ep i) = s := by cases i <;> rfl

@[simp] theorem setEp_setEp (s : State) (i : EpNum) (e e' : Endpoint) : (s.setEp i e).setEp i e' = s.setEp i e' := by
  cases i <;> rfl

@[simp] theorem appendTx_nil (s : State) (i : EpNum) : s.appendTx i [] = s := by
  rw [State.appendTx, List.append_nil]
  exact setEp_ep_self s i

@[simp] theorem e0_ne_appNum (a : AppEp) : EpNum.e0 ≠ appNum a := (appNum_ne_e0 a).symm

@[simp] theorem setEp_e0_ep_appNum (s : State) (e : Endpoint) (a : AppEp) :
    (s.setEp .e0 e).ep (appNum a) = s.ep (appNum a) :=
  s.setEp_ep_of_ne .e0 e (appNum_ne_e0 a)

@[simp] theorem setEp_appNum_ep_e0 (s : State) (e : Endpoint) (a : AppEp) : (s.setEp (appNum a) e).ep .e0 = s.ep .e0 :=
  s.setEp_ep_of_ne (appNum a) e (e0_ne_appNum a)

/-! ### The frame handler -/

theorem idleTick_eq (s : State) : ∃ n ps, s.idleTick = .ok ((s.setIdleCount n).appendTx s.kbd ps) := by
  rcases idleTick_cases s with ⟨-, h⟩ | ⟨-, -, -, h⟩ | ⟨-, -, -, h⟩
  · exact ⟨s.idleCount, [], by rw [h, appendTx_nil]; rfl⟩
  · exact ⟨_, [], by rw [h, appendTx_nil]⟩
  · exact ⟨0, [s.keys.report], h⟩

/-- A SOF's work takes the event, counts, and arms reports on the keyboard endpoint (40_frame_and_reset.md R91 to R93). -/
theorem sofWork_eq (s : State) :
    ∃ q n ps, s.sofWork = .ok ((((s.setSofPending false).setFq q).setIdleCount n).appendTx s.kbd ps) := by
  by_cases hc : s.currentConfiguration = 0#8
  · exact ⟨s.fq, s.idleCount, [], by rw [sofWork_of_unconfigured hc, appendTx_nil]; rfl⟩
  · by_cases hq : s.fq + 1#2 = 0#2
    · obtain ⟨n, ps, h⟩ := idleTick_eq ((s.setSofPending false).setFq 0#2)
      exact ⟨0#2, n, ps, by rw [sofWork_of_tick hc hq, h]; rfl⟩
    · exact ⟨s.fq + 1#2, s.idleCount, [], by rw [sofWork_of_no_tick hc hq, appendTx_nil]; rfl⟩

/-- All that a turn of the frame handler can do (40_frame_and_reset.md R89): the bus-reset work if it is
pending, then a SOF's work. -/
theorem frameStep_cases {s t : State} (h : s.frameStep = .ok t) :
    ∃ u q n ps, (s.resetPending = false ∧ u = s ∨ s.resetPending = true ∧ u = s.resetWork) ∧
      t = (((u.setSofPending false).setFq q).setIdleCount n).appendTx s.kbd ps := by
  have hu : ∃ u, (s.resetPending = false ∧ u = s ∨ s.resetPending = true ∧ u = s.resetWork) ∧
      (if u.sofPending then u.sofWork else .ok u) = .ok t ∧ u.kbd = s.kbd := by
    unfold State.frameStep at h
    cases hr : s.resetPending with
    | false => exact ⟨s, .inl ⟨rfl, rfl⟩, by simpa [hr] using h, rfl⟩
    | true => exact ⟨s.resetWork, .inr ⟨rfl, rfl⟩, by simpa [hr] using h, rfl⟩
  obtain ⟨u, hu, ht, hk⟩ := hu
  rw [← hk]
  cases hs : u.sofPending with
  | false =>
    rw [hs, if_neg Bool.false_ne_true] at ht
    refine ⟨u, u.fq, u.idleCount, [], hu, ?_⟩
    cases ht
    rw [appendTx_nil, ← hs]
    rfl
  | true =>
    rw [hs, if_pos rfl] at ht
    obtain ⟨q, n, ps, h'⟩ := sofWork_eq u
    rw [h'] at ht
    cases ht
    exact ⟨u, q, n, ps, hu, rfl⟩

/-! ### The dispatcher -/

theorem getDescriptor_next {t : DescTable} {len : U16} {s u : State} (h : getDescriptor t len s = .next u) :
    ∃ bs, u = s.setCtl (.dataIn bs) := by
  unfold getDescriptor at h
  split at h
  next bs _ => cases h; exact ⟨bs, rfl⟩
  next => cases h

/-- The registers an `Execute(a)` may write beside a slot's and the stall's (41_dispatcher.md R104). -/
abbrev State.setHid (s : State) (r n q : Byte) (c : Ctl) : State :=
  (((s.setIdleConfig r).setIdleCount n).setProtocol q).setCtl c

/-- All that `Execute(a)` can do (41_dispatcher.md R104): write HID registers, configure the slots, set or clear
one slot's halt, or stall. -/
theorem exec_cases {i : Instr} {s t : State} (h : exec i s = .next t) :
    (∃ r n q c, t = s.setHid r n q c) ∨
    (∃ v, i = .setConfiguration v ∧ t = (((s.setCurrentConfiguration v).disableApp).configureApp).setCtl .statusIn) ∨
    (∃ a b g, t = (s.setEp (appNum a) { s.ep (appNum a) with halt := b, toggle := g }).setCtl .statusIn) ∨
    (∃ c, t = s.takeStall c) := by
  have ctlOnly {c : Ctl} {u : State} (hu : u = s.setCtl c) : ∃ r n q c, u = s.setHid r n q c :=
    ⟨s.idleConfig, s.idleCount, s.protocol, c, hu⟩
  have table {d : DescTable} {len : U16} (hd : getDescriptor d len s = .next t) : ∃ r n q c, t = s.setHid r n q c := by
    obtain ⟨bs, hbs⟩ := getDescriptor_next hd
    exact ctlOnly hbs
  have halted {a : AppEp} (ha : setHalt a s = .next t) : ∃ a b g,
      t = (s.setEp (appNum a) { s.ep (appNum a) with halt := b, toggle := g }).setCtl .statusIn := by
    cases ha
    exact ⟨a, true, (s.ep (appNum a)).toggle, rfl⟩
  have cleared {a : AppEp} (ha : clearHalt a s = .next t) : ∃ a b g,
      t = (s.setEp (appNum a) { s.ep (appNum a) with halt := b, toggle := g }).setCtl .statusIn := by
    cases ha
    exact ⟨a, false, .data0, by simp [State.clearStall, State.setToggle]⟩
  cases i with
  | getDescriptorDevice len => exact .inl (table h)
  | getDescriptorConfiguration len => exact .inl (table h)
  | getDescriptorHid len => exact .inl (table h)
  | getDescriptorReport len => exact .inl (table h)
  | setAddress | getConfiguration | getStatusEndpoint | getStatus | hidGetReport | hidGetIdle | hidGetProtocol
  | hidSetReport =>
    cases h
    exact .inl (ctlOnly rfl)
  | setConfiguration v =>
    cases h
    exact .inr (.inl ⟨v, rfl, rfl⟩)
  | setFeatureHaltEp1 | setFeatureHaltEp2 | setFeatureHaltEp3 | setFeatureHaltEp4 => exact .inr (.inr (.inl (halted h)))
  | clearFeatureHaltEp1 | clearFeatureHaltEp2 | clearFeatureHaltEp3 | clearFeatureHaltEp4 =>
    exact .inr (.inr (.inl (cleared h)))
  | hidSetIdle r =>
    cases h
    exact .inl ⟨r, 0, s.protocol, .statusIn, rfl⟩
  | hidSetProtocol q =>
    cases h
    exact .inl ⟨s.idleConfig, s.idleCount, q, .statusIn, rfl⟩
  | stall c p =>
    cases h
    exact .inr (.inr (.inr ⟨c, rfl⟩))

/-- The SET_REPORT byte's step writes `leds` and releases the packet (44_hid_requests.md R151). -/
theorem reportByteStep_eq (s : State) :
    ∃ b n, reportByteStep s =
      (((s.setDraws n).setLeds b).setEp .e0 { s.ep .e0 with rxq := (s.ep .e0).rxq.tail }).setCtl .statusIn := by
  unfold reportByteStep State.rxRead
  split
  next b bs rest hq => exact ⟨b, s.draws, by rw [hq]; rfl⟩
  next => exact ⟨_, _, rfl⟩
  next => exact ⟨_, _, rfl⟩

/-- What is left of a data stage after one packet (43_descriptor_engine.md R138). -/
theorem chunkStep_ok {rest : List Byte} {s t : State} (h : chunkStep rest s = .ok t) :
    ∃ ps, t = (s.appendTx .e0 ps).setCtl (if rest.length ≤ (ep0SizeOf s.params.ep0Size).bytes then .idle
      else .dataIn (rest.drop (ep0SizeOf s.params.ep0Size).bytes)) := by
  unfold chunkStep at h
  dsimp only at h
  split at h
  next u hu =>
    obtain ⟨-, -, rfl⟩ := armTx_ok hu
    cases h
    refine ⟨_, congrArg _ ?_⟩
    by_cases hl : rest.length ≤ (ep0SizeOf s.params.ep0Size).bytes
    · rw [Nat.min_eq_left hl, List.drop_length, if_pos hl]
      rfl
    · rw [Nat.min_eq_right (by omega), if_neg hl, if_neg (by simpa using hl)]
  next => cases h

theorem statusStep_ok {s t : State} (h : statusStep s = .ok t) : t = (s.appendTx .e0 [[]]).setCtl .idle := by
  unfold statusStep at h
  split at h
  next u hu =>
    obtain ⟨-, -, rfl⟩ := armTx_ok hu
    cases h
    rfl
  next => cases h

theorem statusAddrStep_ok {a : U7} {s t : State} (h : statusAddrStep a s = .ok t) :
    t = (s.appendTx .e0 [[]]).setCtl (.addressWait a) := by
  unfold statusAddrStep at h
  split at h
  next u hu =>
    obtain ⟨-, -, rfl⟩ := armTx_ok hu
    cases h
    rfl
  next => cases h

theorem dispatcherStep_of_decode {s : State} (hc : s.ctl = .idle ∨ s.ctl = .setupReceived) :
    dispatcherStep s = decodeStep s := by
  rcases hc with hc | hc <;> rw [dispatcherStep, hc]

/-- All that a turn of the dispatcher can do, by its control state (41_dispatcher.md R101). -/
theorem dispatcherStep_cases {s t : State} (h : dispatcherStep s = .next t) :
    ((s.ctl = .idle ∨ s.ctl = .setupReceived) ∧ exec (decode s.setupBuf) (s.setSetupPending false) = .next t) ∨
    (∃ rest ps, s.ctl = .dataIn rest ∧ t = (s.appendTx .e0 ps).setCtl
      (if rest.length ≤ (ep0SizeOf s.params.ep0Size).bytes then .idle
        else .dataIn (rest.drop (ep0SizeOf s.params.ep0Size).bytes))) ∨
    (∃ b n, s.ctl = .dataOut ∧
      t = (((s.setDraws n).setLeds b).setEp .e0 { s.ep .e0 with rxq := (s.ep .e0).rxq.tail }).setCtl .statusIn) ∨
    (s.ctl = .statusIn ∧ t = (s.appendTx .e0 [[]]).setCtl .idle) ∨
    (∃ a, s.ctl = .statusInAddr a ∧ t = (s.appendTx .e0 [[]]).setCtl (.addressWait a)) ∨
    (∃ a, s.ctl = .addressWait a ∧ t = (s.setAddress a).setCtl .idle) := by
  unfold dispatcherStep at h
  cases hc : s.ctl with
  | idle =>
    rw [hc] at h
    exact .inl ⟨.inl rfl, h⟩
  | setupReceived =>
    rw [hc] at h
    exact .inl ⟨.inr rfl, h⟩
  | dataIn rest =>
    rw [hc] at h
    obtain ⟨ps, ht⟩ := chunkStep_ok (resultOf_eq_next.mp h)
    exact .inr (.inl ⟨rest, ps, rfl, ht⟩)
  | dataOut =>
    rw [hc] at h
    obtain ⟨b, n, hb⟩ := reportByteStep_eq s
    cases h
    exact .inr (.inr (.inl ⟨b, n, rfl, hb⟩))
  | statusIn =>
    rw [hc] at h
    exact .inr (.inr (.inr (.inl ⟨rfl, statusStep_ok (resultOf_eq_next.mp h)⟩)))
  | statusInAddr a =>
    rw [hc] at h
    exact .inr (.inr (.inr (.inr (.inl ⟨a, rfl, statusAddrStep_ok (resultOf_eq_next.mp h)⟩))))
  | addressWait a =>
    rw [hc] at h
    cases h
    exact .inr (.inr (.inr (.inr (.inr ⟨a, rfl, rfl⟩))))

theorem blockStep_of_frame {s t : State} (hf : s.frameEnabled = true) (h : blockStep s = .next t) :
    s.frameStep = .ok t := by
  rw [blockStep, if_pos hf] at h
  exact resultOf_eq_next.mp h

/-- A turn that is not the frame handler's is the dispatcher's, or holds (60_exceptions.md R178). -/
theorem blockStep_of_not_frame {s t : State} (hf : s.frameEnabled = false) (h : blockStep s = .next t) :
    (s.dispatcherEnabled = true ∧ dispatcherStep s = .next t) ∨ (s.dispatcherEnabled = false ∧ t = s) := by
  rw [blockStep, if_neg (by simp [hf])] at h
  cases hd : s.dispatcherEnabled with
  | true => rw [hd, if_pos rfl] at h; exact .inl ⟨rfl, h⟩
  | false => rw [hd, if_neg Bool.false_ne_true] at h; cases h; exact .inr ⟨rfl, rfl⟩

/-- A decode step: the block's turn, the dispatcher's, at `Idle` or `SetupReceived` (41_dispatcher.md R103). -/
theorem step_of_decode {s : State} (hm : s.nextMove = .block) (hf : s.frameEnabled = false)
    (hd : s.dispatcherEnabled = true) (hc : s.ctl = .idle ∨ s.ctl = .setupReceived) :
    step s = exec (decode s.setupBuf) (s.popMove.setSetupPending false) := by
  rw [step_of_nextMove hm, runMove, blockStep, popMove_frameEnabled, hf, if_neg Bool.false_ne_true,
    popMove_dispatcherEnabled, hd, if_pos rfl]
  exact dispatcherStep_of_decode (s := s.popMove) hc

/-! ### The host -/

theorem epOfToken_eq_e0_iff (e : BitVec 4) : epOfToken e = some .e0 ↔ e = 0 := by
  unfold epOfToken
  split
  next h => simp [h]
  next h => split_ifs <;> simp [h]

theorem latchSetup_eq (s : State) (p : SetupPacket) :
    s.latchSetup p = (((s.setSetupBuf p).setEp .e0
      { s.ep .e0 with halt := false, toggle := .data1, txq := [], rxq := [] }).setSetupPending true).setCtl
        (if s.ctl = .idle then .idle else .setupReceived) := by
  show (if s.ctl = .idle then _ else _) = _
  split
  next hc =>
    rw [← hc]
    rfl
  next => rfl

/-- All that a SETUP can do (45_endpoint_engine.md R156, R157). -/
theorem hostSetupEvent_cases {addr : U7} {e : BitVec 4} {bs : List Byte} {s t : State}
    (h : hostSetupEvent addr e bs s = .next t) :
    ((addr = s.address ∧ e = 0 ∧ (s.ep .e0).en = true) ∧ ∃ p, t = (s.latchSetup p).setAnswer .ack) ∨
    (¬(addr = s.address ∧ e = 0 ∧ (s.ep .e0).en = true) ∧ t = s.setAnswer .silent) := by
  have hacc : s.accepts addr e = some .e0 ↔ addr = s.address ∧ e = 0 ∧ (s.ep .e0).en = true := by
    rw [accepts_eq_some_iff, epOfToken_eq_e0_iff, and_left_comm]
  rw [← hacc]
  unfold hostSetupEvent at h
  split at h
  next ha =>
    split at h
    next p _ => cases h; exact .inl ⟨ha, p, rfl⟩
    next => cases h
  next ha => cases h; exact .inr ⟨ha, rfl⟩

/-- All that an IN can do (45_endpoint_engine.md R163): answer, and take an endpoint's oldest packet. -/
theorem hostInEvent_cases {addr : U7} {e : BitVec 4} {s t : State} (h : hostInEvent addr e s = .next t) :
    ∃ x, t = s.setAnswer x ∨ ∃ i,
      t = (s.setEp i { s.ep i with txq := (s.ep i).txq.tail, toggle := (s.ep i).toggle.flip }).setAnswer x := by
  unfold hostInEvent at h
  split at h
  next i _ =>
    cases h
    unfold State.takeIn
    split
    next => exact ⟨_, .inl rfl⟩
    next =>
      split
      next => exact ⟨_, .inl rfl⟩
      next xs rest hq => exact ⟨_, .inr ⟨i, by rw [hq]; rfl⟩⟩
  next => cases h; exact ⟨_, .inl rfl⟩

/-- All that an OUT can do (45_endpoint_engine.md R164): answer, and hold the packet. -/
theorem hostOutEvent_cases {addr : U7} {e : BitVec 4} {xs : List Byte} {s t : State}
    (h : hostOutEvent addr e xs s = .next t) :
    ∃ x, t = s.setAnswer x ∨ ∃ i, t = (s.setEp i { s.ep i with rxq := (s.ep i).rxq ++ [xs] }).setAnswer x := by
  unfold hostOutEvent at h
  split at h
  next i _ =>
    split at h
    next => cases h
    next =>
      cases h
      unfold State.takeOut
      split_ifs
      · exact ⟨_, .inl rfl⟩
      · exact ⟨_, .inl rfl⟩
      · exact ⟨_, .inl rfl⟩
      · exact ⟨_, .inr ⟨i, rfl⟩⟩
  next => cases h; exact ⟨_, .inl rfl⟩

/-- A bus reset at the event; `c` is what becomes of a dispatcher that waits (45_endpoint_engine.md R168). -/
theorem busReset_eq {s : State} {c : Ctl}
    (hc : s.params.resetInWait = .abort ∧ c = .idle ∨ s.params.resetInWait = .hold ∧ c = s.ctl) :
    s.busReset = ((((s.setAddress 0).disableApp).setSetupPending false).setResetPending true).setCtl c := by
  have hp : ((((s.setAddress 0).disableApp).setSetupPending false).setResetPending true).params = s.params := rfl
  unfold State.busReset
  dsimp only
  rw [hp]
  rcases hc with ⟨hr, rfl⟩ | ⟨hr, rfl⟩
  · rw [hr]
  · rw [hr]
    rfl

theorem resetInWait_cases (s : State) :
    ∃ c, s.params.resetInWait = .abort ∧ c = .idle ∨ s.params.resetInWait = .hold ∧ c = s.ctl := by
  cases s.params.resetInWait with
  | abort => exact ⟨.idle, .inl ⟨rfl, rfl⟩⟩
  | hold => exact ⟨s.ctl, .inr ⟨rfl, rfl⟩⟩

@[simp] theorem disableApp_ep_e0 (s : State) : s.disableApp.ep .e0 = s.ep .e0 := rfl

@[simp] theorem disableApp_ep_appNum (s : State) (a : AppEp) :
    s.disableApp.ep (appNum a) = (s.ep (appNum a)).disable := by
  rw [State.disableApp, State.setEps_ep, mapApp_get_app]
  rfl

@[simp] theorem configureApp_ep_e0 (s : State) : s.configureApp.ep .e0 = s.ep .e0 := rfl

@[simp] theorem configureApp_ep_appNum (s : State) (a : AppEp) :
    s.configureApp.ep (appNum a) = configureSlot s.params a (s.ep (appNum a)) := by
  rw [State.configureApp, State.setEps_ep, mapApp_get_app]
  rfl

end Sys2Proof.Machine
end

section
/-! PROOFS. Who writes which state, the control transitions, the address and the endpoints' enables
(10_state.md). -/
namespace Sys2Proof.Proofs
open Machine

/-! ### Turns of the dispatcher -/

/-- What a turn of the dispatcher leaves of the state, and what it may do to endpoint 0 (10_state.md R38). -/
structure DispatcherKeeps (s t : State) : Prop where
  keys : t.keys = s.keys
  fq : t.fq = s.fq
  resetPending : t.resetPending = s.resetPending
  sofPending : t.sofPending = s.sofPending
  setupPending : t.setupPending = s.setupPending ∨ t.setupPending = false
  setupBuf : t.setupBuf = s.setupBuf
  setupIe : t.setupIe = s.setupIe
  ep0 : t.ep .e0 = { s.ep .e0 with halt := (t.ep .e0).halt, txq := (t.ep .e0).txq, rxq := (t.ep .e0).rxq }
  ep0Txq : ∃ ps, (t.ep .e0).txq = (s.ep .e0).txq ++ ps
  ep0Rxq : (t.ep .e0).rxq = (s.ep .e0).rxq ∨ (t.ep .e0).rxq = (s.ep .e0).rxq.tail

theorem decodeStep_keeps {s t : State} (h : decodeStep s = .next t) : DispatcherKeeps s t := by
  rcases exec_cases h with ⟨r, n, q, c, rfl⟩ | ⟨v, -, rfl⟩ | ⟨a, b, g, rfl⟩ | ⟨c, rfl⟩
  · constructor <;> simp
  · exact ⟨rfl, rfl, rfl, rfl, .inr rfl, rfl, rfl, rfl, ⟨[], (List.append_nil _).symm⟩, .inl rfl⟩
  · constructor <;> simp
  · constructor <;> simp [State.takeStall, State.raiseStall]

theorem dispatcherStep_keeps {s t : State} (h : dispatcherStep s = .next t) : DispatcherKeeps s t := by
  rcases dispatcherStep_cases h with
    ⟨-, hd⟩ | ⟨rest, ps, -, rfl⟩ | ⟨b, n, -, rfl⟩ | ⟨-, rfl⟩ | ⟨a, -, rfl⟩ | ⟨a, -, rfl⟩
  · exact decodeStep_keeps hd
  all_goals constructor <;> simp

/-- A turn that is not the frame handler's keeps what the dispatcher keeps: it may also hold. -/
theorem blockStep_keeps {s t : State} (hf : s.frameEnabled = false) (h : blockStep s = .next t) :
    DispatcherKeeps s t := by
  rcases blockStep_of_not_frame hf h with ⟨-, hd⟩ | ⟨-, rfl⟩
  · exact dispatcherStep_keeps hd
  · exact ⟨rfl, rfl, rfl, rfl, .inl rfl, rfl, rfl, rfl, ⟨[], (List.append_nil _).symm⟩, .inl rfl⟩

/-- What a turn that is not the frame handler's does to a slot: its halt and toggle may change (42_standard_requests.md
R122, R123), or it is disabled and configured by a SET_CONFIGURATION (R120). -/
theorem blockStep_slot {s t : State} (hf : s.frameEnabled = false) (h : blockStep s = .next t) (a : AppEp) :
    (∃ b g, t.ep (appNum a) = { s.ep (appNum a) with halt := b, toggle := g }) ∨
    ((s.ctl = .idle ∨ s.ctl = .setupReceived) ∧ (∃ v, decode s.setupBuf = .setConfiguration v) ∧
      t.ep (appNum a) = configureSlot s.params a (s.ep (appNum a)).disable) := by
  have kept (ht : t.ep (appNum a) = s.ep (appNum a)) :
      ∃ b g, t.ep (appNum a) = { s.ep (appNum a) with halt := b, toggle := g } := ⟨_, _, ht⟩
  rcases blockStep_of_not_frame hf h with ⟨-, hd⟩ | ⟨-, rfl⟩
  · rcases dispatcherStep_cases hd with
      ⟨hc, hx⟩ | ⟨rest, ps, -, rfl⟩ | ⟨b, n, -, rfl⟩ | ⟨-, rfl⟩ | ⟨a', -, rfl⟩ | ⟨a', -, rfl⟩
    · rcases exec_cases hx with ⟨r, n, q, c, rfl⟩ | ⟨v, hv, rfl⟩ | ⟨a', b, g, rfl⟩ | ⟨c, rfl⟩
      · exact .inl (kept rfl)
      · exact .inr ⟨hc, ⟨v, hv⟩, by simp; rfl⟩
      · by_cases ha : a = a'
        · subst ha
          exact .inl ⟨b, g, by simp⟩
        · exact .inl (kept (by simp [State.setEp_ep_of_ne, mt appNum_inj ha]))
      · exact .inl (kept (by simp [State.takeStall, State.raiseStall]))
    · exact .inl (kept (by simp))
    · exact .inl (kept (by simp))
    · exact .inl (kept (by simp))
    · exact .inl (kept (by simp))
    · exact .inl (kept rfl)
  · exact .inl (kept rfl)

theorem configureSlot_txq (p : Params) (a : AppEp) (e : Endpoint) : (configureSlot p a e).txq = e.txq := by
  unfold configureSlot
  split <;> rfl

theorem configureSlot_rxq (p : Params) (a : AppEp) (e : Endpoint) : (configureSlot p a e).rxq = e.rxq := by
  unfold configureSlot
  split <;> rfl

theorem configureSlot_of_ne {p : Params} {a : AppEp} (ha : a ≠ p.kbdEp) (e : Endpoint) : configureSlot p a e = e :=
  if_neg ha

/-- A slot's queues are kept, or a SET_CONFIGURATION drops them (42_standard_requests.md R120). -/
theorem blockStep_slot_queues {s t : State} (hf : s.frameEnabled = false) (h : blockStep s = .next t) (a : AppEp) :
    ((t.ep (appNum a)).txq = (s.ep (appNum a)).txq ∧ (t.ep (appNum a)).rxq = (s.ep (appNum a)).rxq) ∨
    ((t.ep (appNum a)).txq = [] ∧ (t.ep (appNum a)).rxq = [] ∧ (s.ctl = .idle ∨ s.ctl = .setupReceived) ∧
      ∃ v, decode s.setupBuf = .setConfiguration v) := by
  rcases blockStep_slot hf h a with ⟨b, g, ht⟩ | ⟨hc, hv, ht⟩
  · exact .inl (by simp [ht])
  · exact .inr ⟨by rw [ht, configureSlot_txq]; rfl, by rw [ht, configureSlot_rxq]; rfl, hc, hv⟩

theorem getDescriptor_ctl {t : DescTable} {len : U16} {s u : State} (h : getDescriptor t len s = .next u) :
    ∃ bs, u.ctl = .dataIn bs := by
  obtain ⟨bs, rfl⟩ := getDescriptor_next h
  exact ⟨bs, rfl⟩

/-- Where `Execute(a)` sends the dispatcher, by the action's row of 41_dispatcher.md R104. -/
theorem exec_ctl {i : Instr} {s t : State} : exec i s = .next t →
    match i with
    | .stall _ _ => t.ctl = .idle
    | .setAddress a => t.ctl = .statusInAddr a
    | .hidSetReport => t.ctl = .dataOut
    | .getDescriptorDevice _ | .getDescriptorConfiguration _ | .getDescriptorHid _ | .getDescriptorReport _
    | .getConfiguration | .getStatusEndpoint _ | .getStatus | .hidGetReport | .hidGetIdle | .hidGetProtocol =>
      ∃ bs, t.ctl = .dataIn bs
    | .setConfiguration _ | .setFeatureHaltEp1 | .setFeatureHaltEp2 | .setFeatureHaltEp3 | .setFeatureHaltEp4
    | .clearFeatureHaltEp1 | .clearFeatureHaltEp2 | .clearFeatureHaltEp3 | .clearFeatureHaltEp4 | .hidSetIdle _
    | .hidSetProtocol _ => t.ctl = .statusIn := by
  intro h
  cases i with
  | getDescriptorDevice | getDescriptorConfiguration | getDescriptorHid | getDescriptorReport =>
    exact getDescriptor_ctl h
  | getConfiguration | getStatusEndpoint | getStatus | hidGetReport | hidGetIdle | hidGetProtocol =>
    cases h
    exact ⟨_, rfl⟩
  | setAddress | setConfiguration | setFeatureHaltEp1 | setFeatureHaltEp2 | setFeatureHaltEp3 | setFeatureHaltEp4
  | clearFeatureHaltEp1 | clearFeatureHaltEp2 | clearFeatureHaltEp3 | clearFeatureHaltEp4 | hidSetReport | hidSetIdle
  | hidSetProtocol | stall =>
    cases h
    rfl

/-- Where a step after the decode step leads, by its control state (10_state.md R35). -/
theorem dispatcherStep_ctl {s t : State} (h : dispatcherStep s = .next t) :
    (∀ rest, s.ctl = .dataIn rest → t.ctl = if rest.length ≤ (ep0SizeOf s.params.ep0Size).bytes then .idle
      else .dataIn (rest.drop (ep0SizeOf s.params.ep0Size).bytes)) ∧
    (s.ctl = .dataOut → t.ctl = .statusIn) ∧ (s.ctl = .statusIn → t.ctl = .idle) ∧
    (∀ a, s.ctl = .statusInAddr a → t.ctl = .addressWait a) ∧
    (∀ a, s.ctl = .addressWait a → t.ctl = .idle ∧ t.address = a) := by
  rcases dispatcherStep_cases h with
    ⟨hc | hc, -⟩ | ⟨rest, ps, hc, rfl⟩ | ⟨b, n, hc, rfl⟩ | ⟨hc, rfl⟩ | ⟨a, hc, rfl⟩ | ⟨a, hc, rfl⟩
  all_goals simp [hc]

/-! ### Turns of the frame handler -/

/-- What the frame handler leaves of the state (10_state.md R38). -/
theorem frameStep_keeps {s t : State} (h : s.frameStep = .ok t) :
    t.keys = s.keys ∧ t.idleConfig = s.idleConfig ∧ t.protocol = s.protocol ∧ t.leds = s.leds ∧ t.address = s.address ∧
      t.setupPending = s.setupPending ∧ t.setupBuf = s.setupBuf ∧ t.ctl = s.ctl ∧ t.lastStall = s.lastStall := by
  obtain ⟨u, q, n, ps, ⟨-, rfl⟩ | ⟨-, rfl⟩, rfl⟩ := frameStep_cases h <;>
    exact ⟨rfl, rfl, rfl, rfl, rfl, rfl, rfl, rfl, rfl⟩

/-- What the frame handler does to endpoint 0: nothing, or its default configuration after a bus reset
(40_frame_and_reset.md R90). -/
theorem frameStep_ep0 {s t : State} (h : s.frameStep = .ok t) :
    (s.resetPending = false ∧ t.ep .e0 = s.ep .e0 ∧ t.setupIe = s.setupIe ∧
      t.currentConfiguration = s.currentConfiguration) ∨
    (s.resetPending = true ∧ t.ep .e0 = (s.ep .e0).defaultEp0 s.params ∧ t.currentConfiguration = 0) := by
  obtain ⟨u, q, n, ps, ⟨hr, rfl⟩ | ⟨hr, rfl⟩, rfl⟩ := frameStep_cases h
  · exact .inl ⟨hr, by simp [State.kbd]⟩
  · exact .inr ⟨hr, by simp [State.kbd, State.resetWork]⟩

/-- The frame handler arms packets on the keyboard slot and writes no other (40_frame_and_reset.md R93). -/
theorem frameStep_slot {s t : State} (h : s.frameStep = .ok t) (a : AppEp) :
    ∃ ps, t.ep (appNum a) = { s.ep (appNum a) with txq := (s.ep (appNum a)).txq ++ ps } ∧
      (a ≠ s.params.kbdEp → ps = []) := by
  obtain ⟨u, q, n, ps, hu, rfl⟩ := frameStep_cases h
  have hua : u.ep (appNum a) = s.ep (appNum a) := by
    rcases hu with ⟨-, rfl⟩ | ⟨-, rfl⟩
    · rfl
    · simp [State.resetWork]
  by_cases ha : a = s.params.kbdEp
  · exact ⟨ps, by simp [State.kbd, ← ha, hua], fun hn => absurd ha hn⟩
  · exact ⟨[], by simp [State.kbd, State.setEp_ep_of_ne, mt appNum_inj ha, hua], fun _ => rfl⟩

/-! ### The host's transactions, endpoint by endpoint -/

theorem hostInEvent_ep {addr : U7} {e : BitVec 4} {s t : State} (h : hostInEvent addr e s = .next t) (i : EpNum) :
    t.ep i = s.ep i ∨
      t.ep i = { s.ep i with txq := (s.ep i).txq.tail, toggle := (s.ep i).toggle.flip } := by
  obtain ⟨x, rfl | ⟨j, rfl⟩⟩ := hostInEvent_cases h
  · exact .inl rfl
  · by_cases hi : i = j
    · exact .inr (by simp [hi])
    · exact .inl (by simp [State.setEp_ep_of_ne, hi])

theorem hostOutEvent_ep {addr : U7} {e : BitVec 4} {xs : List Byte} {s t : State}
    (h : hostOutEvent addr e xs s = .next t) (i : EpNum) :
    t.ep i = s.ep i ∨ t.ep i = { s.ep i with rxq := (s.ep i).rxq ++ [xs] } := by
  obtain ⟨x, rfl | ⟨j, rfl⟩⟩ := hostOutEvent_cases h
  · exact .inl rfl
  · by_cases hi : i = j
    · exact .inr (by simp [hi])
    · exact .inl (by simp [State.setEp_ep_of_ne, hi])

/-! ### The obligations -/

/-- Settles O47: each clause is one agent's move, by the lemma that says all that move can do. -/
theorem eachAgentWritesOnlyItsState : Obligations.EachAgentWritesOnlyItsState := by
  unfold Obligations.EachAgentWritesOnlyItsState
  intro s t h
  have move {m : Move} (hm : s.nextMove = m) : runMove m s.popMove = .next t := (step_of_nextMove hm).symm.trans h
  refine ⟨fun hm hf => ?frame, fun hm hf => ?dispatcher, fun hm => ?sof, fun addr e hm => ?hostIn,
    fun addr e xs hm => ?hostOut, fun addr e bs hm => ?setup, fun hm => ?reset, fun hm => ?leds,
    fun slot v hm => ?write⟩
  case frame =>
    have hs : s.popMove.frameStep = .ok t := blockStep_of_frame hf (move hm)
    obtain ⟨hk, hi, hp, hl, ha, hsp, hb, hc, hls⟩ := frameStep_keeps hs
    obtain ⟨hr, h0, hie, hcc⟩ | ⟨hr, h0, hcc⟩ := frameStep_ep0 hs
    · exact ⟨hk, hi, hp, hl, ha, hsp, hb, hc, hls, .inl hcc, fun _ => ⟨h0, hie, hcc⟩, congrArg _ h0,
        .inl (congrArg _ h0), .inl (congrArg _ h0), frameStep_slot (s := s.popMove) hs⟩
    · exact ⟨hk, hi, hp, hl, ha, hsp, hb, hc, hls, .inr hcc, fun hn => absurd (hr.symm.trans hn) (by decide),
        by rw [h0]; rfl, .inr (by rw [h0]; rfl), .inr (by rw [h0]; rfl), frameStep_slot (s := s.popMove) hs⟩
  case dispatcher =>
    obtain ⟨hk, hq, hr, hp, hsp, hb, hie, h0, htx, hrx⟩ := blockStep_keeps (s := s.popMove) hf (move hm)
    exact ⟨hk, hq, hr, hp, hsp, hb, hie, h0, htx, hrx, blockStep_slot_queues (s := s.popMove) hf (move hm)⟩
  case sof =>
    cases move hm
    rfl
  case hostIn =>
    refine ⟨?_, hostInEvent_ep (s := s.popMove) (move hm)⟩
    obtain ⟨x, rfl | ⟨i, rfl⟩⟩ := hostInEvent_cases (move hm) <;> rfl
  case hostOut =>
    refine ⟨?_, hostOutEvent_ep (s := s.popMove) (move hm)⟩
    obtain ⟨x, rfl | ⟨i, rfl⟩⟩ := hostOutEvent_cases (move hm) <;> rfl
  case setup =>
    obtain ⟨-, p, rfl⟩ | ⟨-, rfl⟩ := hostSetupEvent_cases (move hm)
    · rw [latchSetup_eq]
      refine ⟨?_, fun _ => rfl, fun a => setEp_e0_ep_appNum _ _ a, .inr rfl⟩
      simp only [State.setAnswer, State.setCtl, State.setSetupPending, State.setEp, State.setEps, State.setSetupBuf,
        State.popMove, State.setEnv]
    · exact ⟨rfl, id, fun _ => rfl, .inl rfl⟩
  case reset =>
    obtain ⟨c, hc⟩ := resetInWait_cases s.popMove
    cases move hm
    rw [busReset_eq hc]
    refine ⟨?_, by simp [State.popMove], fun a => by simp [State.popMove, Endpoint.disable]⟩
    simp only [State.setAnswer, State.setCtl, State.setResetPending, State.setSetupPending, State.disableApp,
      State.setEps, State.setAddress, State.popMove, State.setEnv]
  case leds =>
    cases move hm
    rfl
  case write =>
    cases ha : s.popMove.appWriteEnabled with
    | true =>
      have ht := (appWriteEvent_of_enabled slot v ha).symm.trans (move hm)
      cases ht
      exact ⟨rfl, fun _ => appWriteEnabled_iff.mp ha⟩
    | false =>
      have ht := (appWriteEvent_of_not_enabled slot v ha).symm.trans (move hm)
      cases ht
      exact ⟨rfl, fun hn => absurd rfl hn⟩

/-- Settles O46: the block's turns by what the dispatcher can do in each control state, the other moves by what
their agents write. -/
theorem controlTransitionsAreTheListed : Obligations.ControlTransitionsAreTheListed := by
  unfold Obligations.ControlTransitionsAreTheListed
  intro s t h
  have move {m : Move} (hm : s.nextMove = m) : runMove m s.popMove = .next t := (step_of_nextMove hm).symm.trans h
  obtain ⟨-, -, hsof, hin, hout, -, -, hleds, hwrite⟩ := eachAgentWritesOnlyItsState s t h
  refine ⟨fun hm he => ?frameOrHold, fun hm hf hd => ?dispatcher, fun addr e bs hm => ?setup, fun hm => ?reset,
    fun hm => ?others⟩
  case frameOrHold =>
    cases hf : s.frameEnabled with
    | true =>
      obtain ⟨-, -, -, -, -, -, -, hc, -⟩ := frameStep_keeps (blockStep_of_frame (s := s.popMove) hf (move hm))
      exact hc
    | false =>
      have hd : s.dispatcherEnabled = false := he.resolve_left (by simp [hf])
      cases (step_of_nothing_enabled hm hf hd).symm.trans h
      rfl
  case dispatcher =>
    have hstep : dispatcherStep s.popMove = .next t := by
      rcases blockStep_of_not_frame (s := s.popMove) hf (move hm) with ⟨-, hstep⟩ | ⟨hn, -⟩
      · exact hstep
      · exact absurd (hd.symm.trans hn) (by decide)
    exact ⟨fun hc => exec_ctl ((step_of_decode hm hf hd hc).symm.trans h), dispatcherStep_ctl (s := s.popMove) hstep⟩
  case setup =>
    obtain ⟨⟨ha, he, h0⟩, p, rfl⟩ | ⟨hn, rfl⟩ := hostSetupEvent_cases (move hm)
    · have hc : ((s.popMove.latchSetup p).setAnswer .ack).ctl = if s.ctl = .idle then .idle else .setupReceived := by
        rw [latchSetup_eq]
        rfl
      have h0 : s.eps.ep0.en = true := h0
      have ha : addr = s.address := ha
      rw [hc]
      by_cases hi : s.ctl = .idle
      · simp [hi]
      · simp [hi, ha, he, h0]
    · exact (if_neg fun ⟨ha, he, h0, _⟩ => hn ⟨ha, he, h0⟩).symm
  case reset =>
    obtain ⟨c, hc⟩ := resetInWait_cases s
    cases move hm
    rw [busReset_eq (s := s.popMove) hc]
    rcases hc with ⟨hr, rfl⟩ | ⟨hr, rfl⟩ <;> simp [hr]
  case others =>
    rcases hm with hm | ⟨addr, e, hm⟩ | ⟨addr, e, xs, hm⟩ | ⟨slot, v, hm⟩ | hm
    · exact (congrArg State.ctl (hsof hm) :)
    · exact (congrArg State.ctl (hin addr e hm).1 :)
    · exact (congrArg State.ctl (hout addr e xs hm).1 :)
    · exact (congrArg State.ctl (hwrite slot v hm).1 :)
    · exact (congrArg State.ctl (hleds hm) :)

theorem blockStep_address {s t : State} (h : blockStep s = .next t) :
    t.address = s.address ∨ s.ctl = .addressWait t.address := by
  cases hf : s.frameEnabled with
  | true =>
    obtain ⟨-, -, -, -, ha, -⟩ := frameStep_keeps (blockStep_of_frame hf h)
    exact .inl ha
  | false =>
    rcases blockStep_of_not_frame hf h with ⟨-, hd⟩ | ⟨-, rfl⟩
    · rcases dispatcherStep_cases hd with
        ⟨-, hx⟩ | ⟨rest, ps, -, rfl⟩ | ⟨b, n, -, rfl⟩ | ⟨-, rfl⟩ | ⟨a, -, rfl⟩ | ⟨a, hc, rfl⟩
      · rcases exec_cases hx with ⟨r, n, q, c, rfl⟩ | ⟨v, -, rfl⟩ | ⟨a, b, g, rfl⟩ | ⟨c, rfl⟩ <;> exact .inl rfl
      · exact .inl rfl
      · exact .inl rfl
      · exact .inl rfl
      · exact .inl rfl
      · exact .inr hc
    · exact .inl rfl

/-- Settles O48: of the moves only the block's turn and a bus reset do not keep the address. -/
theorem addressChangesOnlyThen : Obligations.AddressChangesOnlyThen := by
  unfold Obligations.AddressChangesOnlyThen
  intro s t h hne
  obtain ⟨-, -, hsof, hin, hout, hsetup, hreset, hleds, hwrite⟩ := eachAgentWritesOnlyItsState s t h
  cases hm : s.nextMove with
  | block =>
    have ht : blockStep s.popMove = .next t := (step_of_nextMove hm).symm.trans h
    exact .inl ⟨rfl, (blockStep_address ht).resolve_left hne⟩
  | hostReset => exact .inr ⟨rfl, congrArg State.address (hreset hm).1⟩
  | hostSof => exact absurd (congrArg State.address (hsof hm)) hne
  | hostIn addr e => exact absurd (congrArg State.address (hin addr e hm).1) hne
  | hostOut addr e xs => exact absurd (congrArg State.address (hout addr e xs hm).1) hne
  | hostSetup addr e bs => exact absurd (congrArg State.address (hsetup addr e bs hm).1) hne
  | appReadLeds => exact absurd (congrArg State.address (hleds hm)) hne
  | appWrite slot v => exact absurd (congrArg State.address (hwrite slot v hm).1) hne

theorem configureSlot_disable_en {p : Params} {a : AppEp} {e : Endpoint}
    (h : (configureSlot p a e.disable).en = true) : a = p.kbdEp := by
  by_contra ha
  rw [configureSlot_of_ne ha] at h
  cases h

theorem ctl_idle_of_frameEnabled {s : State} (h : s.frameEnabled = true) : s.ctl = .idle := by
  rw [State.frameEnabled, Bool.and_eq_true, decide_eq_true_eq] at h
  exact h.2

/-- Of the environment's moves only a bus reset writes an enable. -/
theorem ep_en_of_host_or_application {s t : State} (h : step s = .next t) (hb : s.nextMove ≠ .block)
    (hr : s.nextMove ≠ .hostReset) (i : EpNum) : (t.ep i).en = (s.ep i).en := by
  obtain ⟨-, -, hsof, hin, hout, hsetup, -, hleds, hwrite⟩ := eachAgentWritesOnlyItsState s t h
  cases hm : s.nextMove with
  | block => exact absurd hm hb
  | hostReset => exact absurd hm hr
  | hostSof => rw [show t.ep i = s.ep i from (congrArg (State.ep · i) (hsof hm) :)]
  | hostIn addr e =>
    rcases (hin addr e hm).2 i with hi | hi <;> rw [hi]
  | hostOut addr e xs =>
    rcases (hout addr e xs hm).2 i with hi | hi <;> rw [hi]
  | hostSetup addr e bs =>
    obtain ⟨-, -, hslot, h0⟩ := hsetup addr e bs hm
    rcases epNum_cases i with rfl | ⟨a, rfl⟩
    · rcases h0 with h0 | h0 <;> rw [h0]
    · rw [hslot a]
  | appReadLeds => rw [show t.ep i = s.ep i from (congrArg (State.ep · i) (hleds hm) :)]
  | appWrite slot v => rw [show t.ep i = s.ep i from (congrArg (State.ep · i) (hwrite slot v hm).1 :)]

/-- Which slot a step enables, and where (10_state.md R36, 42_standard_requests.md R120). -/
theorem slot_enabled_cases {s t : State} (h : step s = .next t) (a : AppEp) (ht : (t.ep (appNum a)).en = true) :
    (s.ep (appNum a)).en = true ∨
    (s.nextMove = .block ∧ (s.ctl = .idle ∨ s.ctl = .setupReceived) ∧ (∃ v, decode s.setupBuf = .setConfiguration v) ∧
      a = s.params.kbdEp) := by
  by_cases hb : s.nextMove = .block
  · have hstep : blockStep s.popMove = .next t := (step_of_nextMove hb).symm.trans h
    cases hf : s.popMove.frameEnabled with
    | true =>
      obtain ⟨ps, hp, -⟩ := frameStep_slot (blockStep_of_frame hf hstep) a
      exact .inl (by rw [hp] at ht; exact ht)
    | false =>
      rcases blockStep_slot hf hstep a with ⟨b, g, hg⟩ | ⟨hc, hv, hg⟩
      · exact .inl (by rw [hg] at ht; exact ht)
      · rw [hg] at ht
        exact .inr ⟨hb, hc, hv, configureSlot_disable_en ht⟩
  · by_cases hr : s.nextMove = .hostReset
    · obtain ⟨-, -, -, -, -, -, hreset, -⟩ := eachAgentWritesOnlyItsState s t h
      rw [(hreset hr).2.2 a] at ht
      cases ht
    · exact .inl ((ep_en_of_host_or_application h hb hr _).symm.trans ht)

/-- Endpoint 0's enable is kept, or the bus-reset work sets it (40_frame_and_reset.md R90). -/
theorem ep0_enabled_cases {s t : State} (h : step s = .next t) :
    (t.ep .e0).en = (s.ep .e0).en ∨
    ((t.ep .e0).en = true ∧ s.nextMove = .block ∧ s.ctl = .idle ∧ s.resetPending = true) := by
  by_cases hb : s.nextMove = .block
  · have hstep : blockStep s.popMove = .next t := (step_of_nextMove hb).symm.trans h
    cases hf : s.popMove.frameEnabled with
    | true =>
      rcases frameStep_ep0 (blockStep_of_frame hf hstep) with ⟨-, h0, -⟩ | ⟨hr, h0, -⟩
      · exact .inl (congrArg Endpoint.en h0)
      · exact .inr ⟨by rw [h0]; rfl, hb, ctl_idle_of_frameEnabled hf, hr⟩
    | false => exact .inl (congrArg Endpoint.en (blockStep_keeps hf hstep).ep0 :)
  · by_cases hr : s.nextMove = .hostReset
    · obtain ⟨-, -, -, -, -, -, hreset, -⟩ := eachAgentWritesOnlyItsState s t h
      exact .inl (congrArg Endpoint.en (hreset hr).2.1)
    · exact .inl (ep_en_of_host_or_application h hb hr .e0)

/-- Settles O49: a slot is enabled only where the dispatcher configures it, endpoint 0 only by the bus-reset
work. -/
theorem endpointsAreEnabledOnlySo : Obligations.EndpointsAreEnabledOnlySo := by
  unfold Obligations.EndpointsAreEnabledOnlySo
  intro s t h
  have h0 : t.eps.ep0.en = s.eps.ep0.en ∨
      (t.eps.ep0.en = true ∧ s.nextMove = .block ∧ s.ctl = .idle ∧ s.resetPending = true) := ep0_enabled_cases h
  refine ⟨fun a hs ht => (slot_enabled_cases h a ht).resolve_left (by simp [hs]), fun hs => ?_, fun hs ht => ?_⟩
  · rcases h0 with h0 | ⟨h0, -⟩
    · exact h0.trans hs
    · exact h0
  · rcases h0 with h0 | ⟨-, hm, hc, hr⟩
    · exact absurd (ht.symm.trans (h0.trans hs)) (by decide)
    · exact ⟨hm, hc, hr⟩

end Sys2Proof.Proofs
end

section
/-! SUPPORT. Two registers the block's steps do not depend on: `last_stall`, which nothing reads (10_state.md R41),
and `protocol`, which only GET_PROTOCOL reads (44_hid_requests.md R150). A move commutes with any change of
their values. -/
namespace Sys2Proof.Machine

/-- `last_stall` and `protocol` with `l` and `q` applied. -/
def State.mapUnread (l : Option StallCause → Option StallCause) (q : Byte → Byte) (s : State) : State :=
  (s.setLastStall (l s.lastStall)).setProtocol (q s.protocol)

/-- An outcome with the two registers changed in its next state. -/
def resultMapUnread (l : Option StallCause → Option StallCause) (q : Byte → Byte) : Result → Result
  | .next s => .next (s.mapUnread l q)
  | .fault f => .fault f
  | .refused r => .refused r

section
variable (l : Option StallCause → Option StallCause) (q : Byte → Byte) (s : State)

@[simp] theorem mapUnread_resetPending : (s.mapUnread l q).resetPending = s.resetPending := rfl
@[simp] theorem mapUnread_sofPending : (s.mapUnread l q).sofPending = s.sofPending := rfl
@[simp] theorem mapUnread_ctl : (s.mapUnread l q).ctl = s.ctl := rfl
@[simp] theorem mapUnread_params : (s.mapUnread l q).params = s.params := rfl
@[simp] theorem mapUnread_ep (i : EpNum) : (s.mapUnread l q).ep i = s.ep i := rfl
@[simp] theorem mapUnread_frameEnabled : (s.mapUnread l q).frameEnabled = s.frameEnabled := rfl
@[simp] theorem mapUnread_dispatcherEnabled : (s.mapUnread l q).dispatcherEnabled = s.dispatcherEnabled := rfl
@[simp] theorem mapUnread_accepts (addr : U7) (e : BitVec 4) : (s.mapUnread l q).accepts addr e = s.accepts addr e := rfl

theorem resultOf_map_mapUnread (r : Except Fault State) :
    resultOf (r.map (·.mapUnread l q)) = resultMapUnread l q (resultOf r) := by
  cases r <;> rfl

/-! ### The handlers' operations -/

theorem armTx_mapUnread (i : EpNum) (xs : List Byte) :
    (s.mapUnread l q).armTx i xs = (s.armTx i xs).map (·.mapUnread l q) := by
  show (if s.txReady i = false then _ else if (s.ep i).size.bytes < xs.length then _ else _) = _
  unfold State.armTx
  split
  · rfl
  · split <;> rfl

theorem flushReport_mapUnread : (s.mapUnread l q).flushReport = s.flushReport.map (·.mapUnread l q) :=
  armTx_mapUnread l q s s.kbd s.keys.report

theorem idleTick_mapUnread : (s.mapUnread l q).idleTick = s.idleTick.map (·.mapUnread l q) := by
  show (if s.idleConfig ≠ 0#8 ∧ s.txReady s.kbd = true then
    if s.idleCount + 1#8 = s.idleConfig then ((s.setIdleCount 0).mapUnread l q).flushReport else _ else _) = _
  unfold State.idleTick
  split
  · split
    · exact flushReport_mapUnread l q (s.setIdleCount 0)
    · rfl
  · rfl

theorem sofWork_mapUnread : (s.mapUnread l q).sofWork = s.sofWork.map (·.mapUnread l q) := by
  by_cases hc : s.currentConfiguration = 0#8
  · rw [sofWork_of_unconfigured hc, sofWork_of_unconfigured (s := s.mapUnread l q) hc]
    rfl
  · by_cases ht : s.fq + 1#2 = 0#2
    · rw [sofWork_of_tick hc ht, sofWork_of_tick (s := s.mapUnread l q) hc ht]
      exact idleTick_mapUnread l q ((s.setSofPending false).setFq 0#2)
    · rw [sofWork_of_no_tick hc ht, sofWork_of_no_tick (s := s.mapUnread l q) hc ht]
      rfl

theorem frameStep_mapUnread : (s.mapUnread l q).frameStep = s.frameStep.map (·.mapUnread l q) := by
  have hr : (if (s.mapUnread l q).resetPending then (s.mapUnread l q).resetWork else s.mapUnread l q) =
      (if s.resetPending then s.resetWork else s).mapUnread l q := by
    rw [mapUnread_resetPending]
    split <;> rfl
  unfold State.frameStep
  rw [hr]
  generalize (if s.resetPending = true then s.resetWork else s) = t
  dsimp only
  rw [mapUnread_sofPending]
  cases t.sofPending with
  | true => exact sofWork_mapUnread l q t
  | false => rfl

theorem chunkStep_mapUnread (rest : List Byte) :
    chunkStep rest (s.mapUnread l q) = (chunkStep rest s).map (·.mapUnread l q) := by
  unfold chunkStep
  dsimp only [mapUnread_params]
  rw [armTx_mapUnread]
  generalize s.armTx .e0 _ = r
  cases r <;> rfl

theorem statusStep_mapUnread : statusStep (s.mapUnread l q) = (statusStep s).map (·.mapUnread l q) := by
  unfold statusStep
  rw [armTx_mapUnread]
  cases s.armTx .e0 [] <;> rfl

theorem statusAddrStep_mapUnread (a : U7) :
    statusAddrStep a (s.mapUnread l q) = (statusAddrStep a s).map (·.mapUnread l q) := by
  unfold statusAddrStep
  rw [armTx_mapUnread]
  cases s.armTx .e0 [] <;> rfl

theorem reportByteStep_mapUnread : reportByteStep (s.mapUnread l q) = (reportByteStep s).mapUnread l q := by
  have hr : (s.mapUnread l q).rxRead .e0 = ((s.rxRead .e0).1, (s.rxRead .e0).2.mapUnread l q) := by
    unfold State.rxRead
    rw [mapUnread_ep]
    split <;> rfl
  unfold reportByteStep
  rw [hr]
  rfl

theorem getDescriptor_mapUnread (t : DescTable) (len : U16) :
    getDescriptor t len (s.mapUnread l q) = resultMapUnread l q (getDescriptor t len s) := by
  show (match s.memRead t.base (min len.toNat (t.dlen s.params)) with | some _ => _ | none => _) = _
  unfold getDescriptor
  cases s.memRead t.base (min len.toNat (t.dlen s.params)) <;> rfl

/-- Only a stall writes `last_stall`, and only GET_PROTOCOL and SET_PROTOCOL read or write `protocol`. -/
theorem exec_mapUnread {i : Instr} (hl : l = id ∨ ∀ c p, i ≠ .stall c p)
    (hq : q = id ∨ (i ≠ .hidGetProtocol ∧ ∀ p, i ≠ .hidSetProtocol p)) :
    exec i (s.mapUnread l q) = resultMapUnread l q (exec i s) := by
  cases i
  case getDescriptorDevice len => exact getDescriptor_mapUnread l q s .device len
  case getDescriptorConfiguration len => exact getDescriptor_mapUnread l q s .configuration len
  case getDescriptorHid len => exact getDescriptor_mapUnread l q s .hid len
  case getDescriptorReport len => exact getDescriptor_mapUnread l q s .report len
  case stall c p =>
    obtain rfl : l = id := hl.resolve_right fun hn => hn c p rfl
    rfl
  case hidGetProtocol =>
    obtain rfl : q = id := hq.resolve_right fun hn => hn.1 rfl
    rfl
  case hidSetProtocol p =>
    obtain rfl : q = id := hq.resolve_right fun hn => hn.2 p rfl
    rfl
  all_goals rfl

/-- A turn of the block commutes, if it does where it decodes. -/
theorem blockStep_mapUnread
    (hdec : s.frameEnabled = false → s.dispatcherEnabled = true → s.ctl = .idle ∨ s.ctl = .setupReceived →
      decodeStep (s.mapUnread l q) = resultMapUnread l q (decodeStep s)) :
    blockStep (s.mapUnread l q) = resultMapUnread l q (blockStep s) := by
  unfold blockStep
  rw [mapUnread_frameEnabled, mapUnread_dispatcherEnabled]
  cases hf : s.frameEnabled with
  | true =>
    rw [if_pos rfl, if_pos rfl, frameStep_mapUnread, resultOf_map_mapUnread]
  | false =>
    rw [if_neg Bool.false_ne_true, if_neg Bool.false_ne_true]
    cases hd : s.dispatcherEnabled with
    | false => rfl
    | true =>
      rw [if_pos rfl, if_pos rfl]
      unfold dispatcherStep
      rw [mapUnread_ctl]
      cases hc : s.ctl with
      | idle => exact hdec hf hd (.inl hc)
      | setupReceived => exact hdec hf hd (.inr hc)
      | dataIn rest => exact (congrArg resultOf (chunkStep_mapUnread l q s rest)).trans (resultOf_map_mapUnread l q _)
      | dataOut => exact congrArg Host.Outcome.next (reportByteStep_mapUnread l q s)
      | statusIn => exact (congrArg resultOf (statusStep_mapUnread l q s)).trans (resultOf_map_mapUnread l q _)
      | statusInAddr a =>
        exact (congrArg resultOf (statusAddrStep_mapUnread l q s a)).trans (resultOf_map_mapUnread l q _)
      | addressWait a => rfl

/-! ### The environment's moves -/

theorem hostSetupEvent_mapUnread (addr : U7) (e : BitVec 4) (bytes : List Byte) :
    hostSetupEvent addr e bytes (s.mapUnread l q) = resultMapUnread l q (hostSetupEvent addr e bytes s) := by
  have hp (p : SetupPacket) : (s.mapUnread l q).latchSetup p = (s.latchSetup p).mapUnread l q := by
    rw [latchSetup_eq, latchSetup_eq]
    rfl
  unfold hostSetupEvent
  rw [mapUnread_accepts]
  split
  · split
    · rw [hp]
      rfl
    · rfl
  · rfl

theorem hostInEvent_mapUnread (addr : U7) (e : BitVec 4) :
    hostInEvent addr e (s.mapUnread l q) = resultMapUnread l q (hostInEvent addr e s) := by
  have hi (i : EpNum) : (s.mapUnread l q).takeIn i = (s.takeIn i).mapUnread l q := by
    unfold State.takeIn
    rw [mapUnread_ep]
    split
    · rfl
    · split <;> rfl
  unfold hostInEvent
  rw [mapUnread_accepts]
  split
  · rw [hi]
    rfl
  · rfl

theorem hostOutEvent_mapUnread (addr : U7) (e : BitVec 4) (xs : List Byte) :
    hostOutEvent addr e xs (s.mapUnread l q) = resultMapUnread l q (hostOutEvent addr e xs s) := by
  have ho (i : EpNum) : (s.mapUnread l q).takeOut i xs = (s.takeOut i xs).mapUnread l q := by
    unfold State.takeOut
    rw [mapUnread_ep]
    split_ifs <;> rfl
  unfold hostOutEvent
  rw [mapUnread_accepts]
  split
  · rw [mapUnread_ep]
    split
    · rfl
    · rw [ho]
      rfl
  · rfl

theorem hostResetEvent_mapUnread : hostResetEvent (s.mapUnread l q) = resultMapUnread l q (hostResetEvent s) := by
  obtain ⟨c, hc⟩ := resetInWait_cases s
  unfold hostResetEvent
  rw [busReset_eq hc, busReset_eq (s := s.mapUnread l q) hc]
  simp only [resultMapUnread, State.mapUnread, State.disableApp, State.setAnswer, State.setCtl, State.setResetPending,
    State.setSetupPending, State.setEps, State.setAddress, State.setLastStall, State.setProtocol]

theorem appWriteEvent_mapUnread (slot : KeySlot) (v : Byte) :
    appWriteEvent slot v (s.mapUnread l q) = resultMapUnread l q (appWriteEvent slot v s) := by
  show (if s.appWriteEnabled then _ else _) = _
  unfold appWriteEvent
  split <;> rfl

/-- A move commutes, if a decode that it is does. -/
theorem runMove_mapUnread (m : Move)
    (hdec : m = .block → s.frameEnabled = false → s.dispatcherEnabled = true →
      s.ctl = .idle ∨ s.ctl = .setupReceived →
      decodeStep (s.mapUnread l q) = resultMapUnread l q (decodeStep s)) :
    runMove m (s.mapUnread l q) = resultMapUnread l q (runMove m s) := by
  cases m with
  | block => exact blockStep_mapUnread l q s (hdec rfl)
  | hostSetup addr e bs => exact hostSetupEvent_mapUnread l q s addr e bs
  | hostIn addr e => exact hostInEvent_mapUnread l q s addr e
  | hostOut addr e xs => exact hostOutEvent_mapUnread l q s addr e xs
  | hostSof => rfl
  | hostReset => exact hostResetEvent_mapUnread l q s
  | appWrite slot v => exact appWriteEvent_mapUnread l q s slot v
  | appReadLeds => rfl

end

end Sys2Proof.Machine
end

section
/-! PROOFS. Nothing reads `last_stall` (10_state.md R41). -/
namespace Sys2Proof.Proofs
open Machine

theorem step_of_stall {s : State} {c : StallCause} {p : SetupPacket} (hm : s.nextMove = .block)
    (hf : s.frameEnabled = false) (hd : s.dispatcherEnabled = true) (hc : s.ctl = .idle ∨ s.ctl = .setupReceived)
    (hi : decode s.setupBuf = .stall c p) : step s = .next ((s.popMove.setSetupPending false).takeStall c) := by
  rw [step_of_decode hm hf hd hc, hi]
  rfl

/-- Settles O51: a stall ends the same whatever `last_stall` held, and every other step keeps what it held. -/
theorem lastStallIsNeverRead : Obligations.LastStallIsNeverRead := by
  unfold Obligations.LastStallIsNeverRead
  intro s t x h
  by_cases hstall : s.nextMove = .block ∧ s.frameEnabled = false ∧ s.dispatcherEnabled = true ∧
      (s.ctl = .idle ∨ s.ctl = .setupReceived) ∧ ∃ c p, decode s.setupBuf = .stall c p
  · obtain ⟨hm, hf, hd, hc, c, p, hi⟩ := hstall
    refine ⟨t.lastStall, ?_, .inr rfl⟩
    rw [step_of_stall hm hf hd hc hi] at h
    cases h
    exact step_of_stall (s := { s with lastStall := x }) hm hf hd hc hi
  · refine ⟨x, ?_, .inl rfl⟩
    have hm := runMove_mapUnread (fun _ => x) id s.popMove s.nextMove fun hm hf hd hc =>
      exec_mapUnread (fun _ => x) id (s.popMove.setSetupPending false)
        (.inr fun c p hi => hstall ⟨hm, hf, hd, hc, c, p, hi⟩) (.inl rfl)
    exact hm.trans (congrArg (resultMapUnread (fun _ => x) id) h)

end Sys2Proof.Proofs
end

section
/-! PROOFS. The memory: the SETUP packet's fields and word (20_memory.md R50, 30_encoding.md R71), the ROM at power-on
(20_memory.md R56), and that no step writes it (R55). -/
namespace Sys2Proof.Proofs
open Machine

/-! ### The fields of the word `P` -/

/-- A word is the sum of its bytes at their places (30_encoding.md R71). -/
theorem toNat_eq_bytes (w : BitVec 64) :
    w.toNat = (w.extractLsb' 0 8).toNat + 2 ^ 8 * (w.extractLsb' 8 8).toNat + 2 ^ 16 * (w.extractLsb' 16 8).toNat +
      2 ^ 24 * (w.extractLsb' 24 8).toNat + 2 ^ 32 * (w.extractLsb' 32 8).toNat + 2 ^ 40 * (w.extractLsb' 40 8).toNat +
      2 ^ 48 * (w.extractLsb' 48 8).toNat + 2 ^ 56 * (w.extractLsb' 56 8).toNat := by
  have hw := w.isLt
  simp only [BitVec.extractLsb'_toNat, Nat.shiftRight_eq_div_pow]
  omega

/-- Two bytes of a word that stand side by side are a 16-bit field, the lower one least significant (20_memory.md R50). -/
theorem extract_field (w : BitVec 64) (k : Nat) :
    w.extractLsb' k 16 = le16Of (w.extractLsb' k 8) (w.extractLsb' (k + 8) 8) := by
  apply BitVec.eq_of_getLsbD_eq
  intro j hj
  interval_cases j <;> simp [le16Of, Nat.add_assoc]

/-- Settles O6: the bytes of the word `P` are the packet's, and a 16-bit field is two of them. -/
theorem setupFieldsAreLittleEndian : Obligations.SetupFieldsAreLittleEndian := by
  unfold Obligations.SetupFieldsAreLittleEndian
  intro p
  obtain ⟨h0, h1, h2, h3, h4, h5, h6, h7⟩ := SetupPacket.mk.inj (ofWord_word p)
  refine ⟨rfl, rfl, rfl, ?sum, h0, h1, ?val, ?idx, ?len, fun r => Iff.rfl⟩
  case sum =>
    conv_lhs => rw [toNat_eq_bytes, h0, h1, h2, h3, h4, h5, h6, h7]
  case val => rw [extract_field, h2, h3]; rfl
  case idx => rw [extract_field, h4, h5]; rfl
  case len => rw [extract_field, h6, h7]; rfl

/-! ### The ROM at power-on -/

/-- The ROM's byte at an address is the image's there (20_memory.md R56). -/
theorem readCell_reset_rom (a : Nat) :
    readCell State.reset.rom a = (romImage Config.params Config.desc Config.rptDesc)[a]? := by
  rw [State.reset, readCell_cellsFrom, if_pos (Nat.zero_le a), Nat.sub_zero]

theorem romImage_device (p : Params) (d : DescParams) (rpt : List Byte) {k : Nat} (hk : k < 18) :
    (romImage p d rpt)[k]? = (deviceDescriptor p d)[k]? := by
  rw [romImage, List.append_assoc, List.getElem?_append_left (by simpa using hk)]

theorem romImage_configuration (p : Params) (d : DescParams) (rpt : List Byte) {k : Nat} (hk : k < 34) :
    (romImage p d rpt)[0x12 + k]? = (configurationBundle p d)[k]? := by
  rw [romImage, List.append_assoc, List.getElem?_append_right (by simp), deviceDescriptor_length,
    Nat.add_sub_cancel_left, List.getElem?_append_left (by simpa using hk)]

theorem romImage_report (p : Params) (d : DescParams) (rpt : List Byte) (k : Nat) :
    (romImage p d rpt)[0x34 + k]? = rpt[k]? := by
  rw [romImage, List.getElem?_append_right (by simp)]
  simp

/-- Reading all the places of a list in order gives its elements. -/
theorem map_range_eq_map_some {α : Type} {f : Nat → Option α} {l : List α} {n : Nat} (hn : l.length = n)
    (hf : ∀ k, k < n → f k = l[k]?) : (List.range n).map f = l.map some := by
  refine List.ext_getElem (by simp [hn]) fun k hk _ => ?_
  have hkn : k < n := by simpa using hk
  simp [hf k hkn, hn, hkn]

theorem ep0SizeByte_eq (z : Ep0Size) : ep0SizeByte z = BitVec.ofNat 8 (ep0SizeOf z).bytes := by cases z <;> rfl

theorem kbdEpAddress_eq (a : AppEp) : kbdEpAddress a = 0x80 + (tokenOf a).setWidth 8 := by cases a <;> rfl

/-- A descriptor field's two bytes, from the number it holds (20_memory.md R51). -/
theorem le16_ofNat (n : Nat) : le16 (BitVec.ofNat 16 n) = [BitVec.ofNat 8 n, BitVec.ofNat 8 (n / 2 ^ 8)] := by
  have lo : (BitVec.ofNat 16 n).extractLsb' 0 8 = BitVec.ofNat 8 n := by
    apply BitVec.eq_of_toNat_eq
    simp
  have hi : (BitVec.ofNat 16 n).extractLsb' 8 8 = BitVec.ofNat 8 (n / 2 ^ 8) := by
    apply BitVec.eq_of_toNat_eq
    simp [Nat.shiftRight_eq_div_pow]
    omega
  rw [le16, lo, hi]

/-- HID_VERSION's bytes, two decimal digits each (43_descriptor_engine.md R132). -/
theorem le16_bcdWord (v : Bcd16) : le16 (bcdWord v) =
    [BitVec.ofNat 8 (16 * v.d1.val + v.d0.val), BitVec.ofNat 8 (16 * v.d3.val + v.d2.val)] := by
  obtain ⟨d3, d2, d1, d0⟩ := v
  rw [bcdWord, le16_ofNat]
  congr 1
  · apply BitVec.eq_of_toNat_eq
    simp
    omega
  · congr 2
    simp
    omega

theorem params_rptLen_lt : Config.params.rptLen < 2 ^ 8 := by
  have := Config.rptLenPred.isLt
  simp only [Config.params]
  omega

/-- Settles O41: the image is the device descriptor, the bundle and the report bytes one after another. -/
theorem powerOnRomHoldsTheTables : Obligations.PowerOnRomHoldsTheTables := by
  unfold Obligations.PowerOnRomHoldsTheTables
  refine ⟨map_range_eq_map_some rfl fun k hk => ?device, map_range_eq_map_some rfl fun k hk => ?configuration,
    fun k hk => ?report, fun a ha => ?beyond⟩
  case device =>
    rw [readCell_reset_rom, romImage_device _ _ _ hk, deviceDescriptor, ep0SizeByte_eq]
    rfl
  case configuration =>
    have hl : le16 (BitVec.ofNat 16 Config.params.rptLen) = [BitVec.ofNat 8 Config.params.rptLen, 0] := by
      rw [le16_ofNat, Nat.div_eq_of_lt params_rptLen_lt]
      rfl
    rw [readCell_reset_rom, romImage_configuration _ _ _ hk, configurationBundle, le16_bcdWord, hl, kbdEpAddress_eq]
    rfl
  case report =>
    have hk' : k < Config.rptDesc.length := by rw [rptDesc_length]; exact hk
    rw [readCell_reset_rom, romImage_report, List.getElem?_eq_getElem hk']
    simp [Config.rptDesc]
  case beyond =>
    rw [readCell_reset_rom, List.getElem?_eq_none_iff, romImage_length, rptDesc_length, Nat.add_comm]
    exact ha

/-! ### No step writes the ROM or a parameter -/

/-- The ROM and the parameters of `t` are those of `s` (20_memory.md R55, log entry 1). -/
structure RomKept (s t : State) : Prop where
  rom : t.rom = s.rom
  params : t.params = s.params

@[simp] theorem disableApp_rom (s : State) : s.disableApp.rom = s.rom := rfl
@[simp] theorem disableApp_params (s : State) : s.disableApp.params = s.params := rfl
@[simp] theorem configureApp_rom (s : State) : s.configureApp.rom = s.rom := rfl
@[simp] theorem configureApp_params (s : State) : s.configureApp.params = s.params := rfl

theorem exec_romKept {i : Instr} {s t : State} (h : exec i s = .next t) : RomKept s t := by
  obtain ⟨r, n, q, c, rfl⟩ | ⟨v, -, rfl⟩ | ⟨a, b, g, rfl⟩ | ⟨c, rfl⟩ := exec_cases h
  · exact ⟨rfl, rfl⟩
  · constructor <;> simp
  · exact ⟨rfl, rfl⟩
  · exact ⟨rfl, rfl⟩

theorem dispatcherStep_romKept {s t : State} (h : dispatcherStep s = .next t) : RomKept s t := by
  obtain ⟨-, hx⟩ | ⟨rest, ps, -, rfl⟩ | ⟨b, n, -, rfl⟩ | ⟨-, rfl⟩ | ⟨a, -, rfl⟩ | ⟨a, -, rfl⟩ :=
    dispatcherStep_cases h
  · obtain ⟨hr, hp⟩ := exec_romKept hx
    exact ⟨hr, hp⟩
  all_goals exact ⟨rfl, rfl⟩

theorem frameStep_romKept {s t : State} (h : s.frameStep = .ok t) : RomKept s t := by
  obtain ⟨u, q, n, ps, ⟨-, rfl⟩ | ⟨-, rfl⟩, rfl⟩ := frameStep_cases h
  · exact ⟨rfl, rfl⟩
  · constructor <;> simp [State.resetWork]

theorem blockStep_romKept {s t : State} (h : blockStep s = .next t) : RomKept s t := by
  cases hf : s.frameEnabled with
  | true => exact frameStep_romKept (blockStep_of_frame hf h)
  | false =>
    obtain ⟨-, hd⟩ | ⟨-, rfl⟩ := blockStep_of_not_frame hf h
    · exact dispatcherStep_romKept hd
    · exact ⟨rfl, rfl⟩

/-- No agent's move writes the ROM or a parameter. -/
theorem runMove_romKept {m : Move} {s t : State} (h : runMove m s = .next t) : RomKept s t := by
  cases m with
  | block => exact blockStep_romKept h
  | hostSetup addr e bs =>
    obtain ⟨-, p, rfl⟩ | ⟨-, rfl⟩ := hostSetupEvent_cases h
    · rw [latchSetup_eq]
      constructor <;> simp
    · exact ⟨rfl, rfl⟩
  | hostIn addr e => obtain ⟨x, rfl | ⟨i, rfl⟩⟩ := hostInEvent_cases h <;> exact ⟨rfl, rfl⟩
  | hostOut addr e xs => obtain ⟨x, rfl | ⟨i, rfl⟩⟩ := hostOutEvent_cases h <;> exact ⟨rfl, rfl⟩
  | hostReset =>
    obtain ⟨c, hc⟩ := resetInWait_cases s
    cases h
    rw [busReset_eq hc]
    constructor <;> simp
  | appWrite slot v =>
    rw [runMove, appWriteEvent] at h
    split at h <;> cases h <;> exact ⟨rfl, rfl⟩
  | hostSof | appReadLeds =>
    cases h
    exact ⟨rfl, rfl⟩

/-- Settles O45: a step is one agent's move, and no agent's move writes them. -/
theorem romAndParametersNeverChange : Obligations.RomAndParametersNeverChange := by
  unfold Obligations.RomAndParametersNeverChange
  intro s t h
  obtain ⟨hrom, hparams⟩ := runMove_romKept (s := s.popMove) h
  exact ⟨hrom, hparams, fun a => congrArg (readCell · a) hrom⟩

end Sys2Proof.Proofs
end

section
/-! SUPPORT. The rows of opcode_table.json in the packet's fields (30_encoding.md R78, R83): which packets each row
claims, what it reads from one, that `decode` is the claiming row's reading, and which rows the table selects. -/
namespace Sys2Proof
open Machine

/-! ### Fields and operands, byte by byte -/

theorem extract_low_le16Of (lo hi : Byte) : (le16Of lo hi).extractLsb' 0 8 = lo := by
  apply BitVec.eq_of_getLsbD_eq
  intro k hk
  interval_cases k <;> simp [le16Of]

theorem extract_high_le16Of (lo hi : Byte) : (le16Of lo hi).extractLsb' 8 8 = hi := by
  apply BitVec.eq_of_getLsbD_eq
  intro k hk
  interval_cases k <;> simp [le16Of]

/-- A 16-bit field's value, byte by byte (20_memory.md R50). -/
theorem le16Of_eq_iff (lo hi : Byte) (v : U16) :
    le16Of lo hi = v ↔ lo = v.extractLsb' 0 8 ∧ hi = v.extractLsb' 8 8 := by
  constructor
  · rintro rfl
    exact ⟨(extract_low_le16Of lo hi).symm, (extract_high_le16Of lo hi).symm⟩
  · rintro ⟨rfl, rfl⟩
    exact le16Of_extract v

/-- `idx[6:0]` is the low 7 bits of the packet's fifth byte (30_encoding.md R75). -/
theorem endpointOperand_le16Of (lo hi : Byte) : endpointOperand (le16Of lo hi) = lo.extractLsb' 0 7 := by
  apply BitVec.eq_of_getLsbD_eq
  intro k hk
  interval_cases k <;> simp [endpointOperand, le16Of]

theorem extract_setWidth_of_le {n : Nat} (hn : n ≤ 16) (v : BitVec n) : (v.setWidth 16).extractLsb' 0 n = v := by
  apply BitVec.eq_of_toNat_eq
  have hv : v.toNat < 2 ^ 16 := v.isLt.trans_le (Nat.pow_le_pow_right two_pos hn)
  rw [BitVec.extractLsb'_toNat, Nat.shiftRight_zero, BitVec.toNat_setWidth, Nat.mod_eq_of_lt hv,
    Nat.mod_eq_of_lt v.isLt]

/-! ### The rows -/

/-- The packets that are a row's own (30_encoding.md R78). The guards of two rows exclude each other: GET_STATUS
leaves `rt` 0x82 to the endpoint's row, and a stall is what no request row claims. -/
def Row.Claims : Row → SetupPacket → Prop
  | .getDescriptorDevice, p => p.rq = 0x06#8 ∧ lookup p.val p.idx = some .device
  | .getDescriptorConfiguration, p => p.rq = 0x06#8 ∧ lookup p.val p.idx = some .configuration
  | .getDescriptorHid, p => p.rq = 0x06#8 ∧ lookup p.val p.idx = some .hid
  | .getDescriptorReport, p => p.rq = 0x06#8 ∧ lookup p.val p.idx = some .report
  | .setAddress, p => p.rq = 0x05#8
  | .setConfiguration, p => p.rt = 0x00#8 ∧ p.rq = 0x09#8
  | .getConfiguration, p => p.rt = 0x80#8 ∧ p.rq = 0x08#8
  | .getStatusEndpoint, p => p.rt = 0x82#8 ∧ p.rq = 0x00#8
  | .getStatus, p => p.rt ≠ 0x82#8 ∧ p.rq = 0x00#8
  | .setFeatureHalt e, p => p.rq = 0x03#8 ∧ featureTarget p.rt p.rq p.val p.idx = some e
  | .clearFeatureHalt e, p => p.rq = 0x01#8 ∧ featureTarget p.rt p.rq p.val p.idx = some e
  | .hidGetReport, p => p.rt = 0xA1#8 ∧ p.rq = 0x01#8 ∧ p.idx = kbdIf
  | .hidGetIdle, p => p.rt = 0xA1#8 ∧ p.rq = 0x02#8 ∧ p.idx = kbdIf
  | .hidGetProtocol, p => p.rt = 0xA1#8 ∧ p.rq = 0x03#8 ∧ p.idx = kbdIf
  | .hidSetReport, p => p.rt = 0x21#8 ∧ p.rq = 0x09#8 ∧ p.idx = kbdIf
  | .hidSetIdle, p => p.rt = 0x21#8 ∧ p.rq = 0x0A#8 ∧ p.idx = kbdIf
  | .hidSetProtocol, p => p.rt = 0x21#8 ∧ p.rq = 0x0B#8 ∧ p.idx = kbdIf
  | .stall, p => ∃ c, stallCauseOf p = some c

/-- The instruction a row reads from a packet: the row's action with the operands of 30_encoding.md R77. -/
def Row.read : Row → SetupPacket → Instr
  | .getDescriptorDevice, p => .getDescriptorDevice p.len
  | .getDescriptorConfiguration, p => .getDescriptorConfiguration p.len
  | .getDescriptorHid, p => .getDescriptorHid p.len
  | .getDescriptorReport, p => .getDescriptorReport p.len
  | .setAddress, p => .setAddress (addressOperand p.val)
  | .setConfiguration, p => .setConfiguration (configurationOperand p.val)
  | .getConfiguration, _ => .getConfiguration
  | .getStatusEndpoint, p => .getStatusEndpoint (endpointOperand p.idx)
  | .getStatus, _ => .getStatus
  | .setFeatureHalt e, _ => setHaltInstr e
  | .clearFeatureHalt e, _ => clearHaltInstr e
  | .hidGetReport, _ => .hidGetReport
  | .hidGetIdle, _ => .hidGetIdle
  | .hidGetProtocol, _ => .hidGetProtocol
  | .hidSetReport, _ => .hidSetReport
  | .hidSetIdle, p => .hidSetIdle (idleOperand p.val)
  | .hidSetProtocol, p => .hidSetProtocol (protocolOperand p.val)
  | .stall, p => .stall ((stallCauseOf p).getD .unsupported) p

@[simp] theorem row_read (r : Row) (p : SetupPacket) : (r.read p).row = r := by
  cases r with
  | setFeatureHalt e | clearFeatureHalt e => cases e <;> rfl
  | _ => rfl

/-! ### GET_DESCRIPTOR's four rows and the halt features' eight -/

/-- The row of a table claims what `Lookup` finds it for (43_descriptor_engine.md R130). -/
theorem claims_of_lookup {p : SetupPacket} {t : DescTable} (n : U16) (hrq : p.rq = 0x06#8)
    (ht : lookup p.val p.idx = some t) : (getDescriptorInstr n t).row.Claims p := by
  cases t <;> exact ⟨hrq, ht⟩

theorem read_getDescriptor_row (n : U16) (t : DescTable) (p : SetupPacket) :
    (getDescriptorInstr n t).row.read p = getDescriptorInstr p.len t := by
  cases t <;> rfl

theorem appEpOf_eq_some_iff (x : U7) (e : AppEp) : appEpOf x = some e ↔ x = (tokenOf e).setWidth 7 := by
  cases e <;> revert x <;> decide

/-- `1 ≤ idx[6:0] ≤ 4` names an application endpoint (30_encoding.md R75). -/
theorem exists_token_of_range {x : U7} (h1 : 1 ≤ x.toNat) (h4 : x.toNat ≤ 4) :
    ∃ e : AppEp, x = (tokenOf e).setWidth 7 := by
  have hx : x.toNat = 1 ∨ x.toNat = 2 ∨ x.toNat = 3 ∨ x.toNat = 4 := by omega
  obtain h | h | h | h := hx
  · exact ⟨.ep1, BitVec.eq_of_toNat_eq h⟩
  · exact ⟨.ep2, BitVec.eq_of_toNat_eq h⟩
  · exact ⟨.ep3, BitVec.eq_of_toNat_eq h⟩
  · exact ⟨.ep4, BitVec.eq_of_toNat_eq h⟩

/-- What a halt feature's row asks of the fields (30_encoding.md R75, R78). -/
theorem featureTarget_eq_some_iff (rt rq : Byte) (val idx : U16) (e : AppEp) :
    featureTarget rt rq val idx = some e ↔
      ((rq = 0x01#8 ∨ rq = 0x03#8) ∧ rt = 0x02#8 ∧ val = 0#16) ∧ endpointOperand idx = (tokenOf e).setWidth 7 := by
  rw [featureTarget, Option.ite_none_right_eq_some, appEpOf_eq_some_iff]

/-! ### `decode` is the claiming row's reading -/

/-- The guards `plainRowClaims` stands for, one by one (30_encoding.md R73, R76). -/
theorem plainRowClaims_iff (rt rq : Byte) (idx : U16) : plainRowClaims rt rq idx = true ↔
    rq = 0x05#8 ∨ rq = 0x00#8 ∨ (rq = 0x09#8 ∧ rt = 0x00#8) ∨ (rq = 0x08#8 ∧ rt = 0x80#8) ∨
      (idx = kbdIf ∧ rt = 0xA1#8 ∧ rq = 0x01#8) ∨ (idx = kbdIf ∧ rt = 0xA1#8 ∧ rq = 0x02#8) ∨
      (idx = kbdIf ∧ rt = 0xA1#8 ∧ rq = 0x03#8) ∨ (idx = kbdIf ∧ rt = 0x21#8 ∧ rq = 0x09#8) ∨
      (idx = kbdIf ∧ rt = 0x21#8 ∧ rq = 0x0A#8) ∨ (idx = kbdIf ∧ rt = 0x21#8 ∧ rq = 0x0B#8) := by
  simp [plainRowClaims, or_assoc, and_assoc, and_or_left]

/-- What each cause of 60_exceptions.md R181 says of the packet. -/
theorem stallCauseOf_cases {p : SetupPacket} {c : StallCause} (h : stallCauseOf p = some c) :
    (c = .descriptorNotFound ∧ p.rq = 0x06#8 ∧ lookup p.val p.idx = none) ∨
    (c = .badFeatureTarget ∧ (p.rq = 0x01#8 ∨ p.rq = 0x03#8) ∧ p.rt = 0x02#8 ∧
      featureTarget p.rt p.rq p.val p.idx = none) ∨
    (c = .unsupported ∧ p.rq ≠ 0x06#8 ∧ ¬((p.rq = 0x01#8 ∨ p.rq = 0x03#8) ∧ p.rt = 0x02#8) ∧
      ¬plainRowClaims p.rt p.rq p.idx = true) := by
  simp only [stallCauseOf, ite_eq_iff, reduceCtorEq, and_false, false_or, Option.some.injEq,
    Option.not_isSome_iff_eq_none] at h
  obtain ⟨hrq, hl, hc⟩ | ⟨h6, ⟨⟨hrq, hrt⟩, ht, hc⟩ | ⟨hf, hp, hc⟩⟩ := h
  · exact .inl ⟨hc.symm, hrq, hl⟩
  · exact .inr (.inl ⟨hc.symm, hrq, hrt, ht⟩)
  · exact .inr (.inr ⟨hc.symm, h6, hf, hp⟩)

/-- No guard of R78 takes a packet that has a stall cause. -/
theorem decode_of_stallCause {p : SetupPacket} {c : StallCause} (h : stallCauseOf p = some c) :
    decode p = .stall c p := by
  obtain ⟨rfl, hrq, hl⟩ | ⟨rfl, hrq, hrt, ht⟩ | ⟨rfl, h6, hf, hp⟩ := stallCauseOf_cases h
  · simp [decode, hrq, hl]
  · obtain hrq | hrq := hrq <;>
    · rw [hrq, hrt] at ht
      simp [decode, hrq, hrt, ht]
  · simp only [plainRowClaims_iff, not_or] at hp
    obtain ⟨h5, h0, hsc, hgc, hgr, hgi, hgp, hsr, hsi, hsp⟩ := hp
    have ht : featureTarget p.rt p.rq p.val p.idx = none := if_neg fun hc => hf ⟨hc.1, hc.2.1⟩
    simp only [decode, h6, h5, hsc, hgc, h0, ht, hgr, hgi, hgp, hsr, hsi, hsp, hf, if_false]

/-- A row's own packets decode to what it reads from them. -/
theorem decode_of_claims {r : Row} {p : SetupPacket} (h : r.Claims p) : decode p = r.read p := by
  cases r with
  | stall =>
    obtain ⟨c, hc⟩ := h
    rw [decode_of_stallCause hc, Row.read, hc, Option.getD_some]
  | setAddress =>
    have hrq : p.rq = 0x05#8 := h
    simp [decode, Row.read, hrq]
  | setFeatureHalt e | clearFeatureHalt e =>
    obtain ⟨hrq, hf⟩ := h
    simp [decode, Row.read, hrq, hrq ▸ hf]
  | getDescriptorDevice | getDescriptorConfiguration | getDescriptorHid | getDescriptorReport =>
    obtain ⟨hrq, ht⟩ := h
    simp [decode, Row.read, hrq, ht, getDescriptorInstr]
  | setConfiguration | getConfiguration | getStatusEndpoint | getStatus =>
    obtain ⟨hrt, hrq⟩ := h
    simp [decode, Row.read, hrq, hrt]
  | hidGetReport | hidGetIdle | hidGetProtocol | hidSetReport | hidSetIdle | hidSetProtocol =>
    obtain ⟨hrt, hrq, hidx⟩ := h
    simp [decode, Row.read, featureTarget, hrq, hrt, hidx]

theorem exists_claims_of_plainRowClaims {p : SetupPacket} (h : plainRowClaims p.rt p.rq p.idx = true) :
    ∃ r : Row, r.Claims p := by
  obtain h | h | ⟨hrq, hrt⟩ | ⟨hrq, hrt⟩ | ⟨hi, hrt, hrq⟩ | ⟨hi, hrt, hrq⟩ | ⟨hi, hrt, hrq⟩ | ⟨hi, hrt, hrq⟩ |
    ⟨hi, hrt, hrq⟩ | ⟨hi, hrt, hrq⟩ := (plainRowClaims_iff _ _ _).mp h
  · exact ⟨.setAddress, h⟩
  · by_cases hrt : p.rt = 0x82#8
    · exact ⟨.getStatusEndpoint, hrt, h⟩
    · exact ⟨.getStatus, hrt, h⟩
  · exact ⟨.setConfiguration, hrt, hrq⟩
  · exact ⟨.getConfiguration, hrt, hrq⟩
  · exact ⟨.hidGetReport, hrt, hrq, hi⟩
  · exact ⟨.hidGetIdle, hrt, hrq, hi⟩
  · exact ⟨.hidGetProtocol, hrt, hrq, hi⟩
  · exact ⟨.hidSetReport, hrt, hrq, hi⟩
  · exact ⟨.hidSetIdle, hrt, hrq, hi⟩
  · exact ⟨.hidSetProtocol, hrt, hrq, hi⟩

/-- Every packet is some row's (30_encoding.md R78 "`Decode` is total"). -/
theorem exists_claims (p : SetupPacket) : ∃ r : Row, r.Claims p := by
  cases hc : stallCauseOf p with
  | some c => exact ⟨.stall, c, hc⟩
  | none =>
    simp only [stallCauseOf, ite_eq_iff, reduceCtorEq, and_false, or_false, and_true] at hc
    obtain ⟨hrq, hl⟩ | ⟨-, ⟨⟨hrq, -⟩, hs⟩ | ⟨-, hp⟩⟩ := hc
    · obtain ⟨t, ht⟩ := Option.isSome_iff_exists.mp hl
      exact ⟨_, claims_of_lookup 0 hrq ht⟩
    · obtain ⟨e, he⟩ := Option.isSome_iff_exists.mp hs
      obtain hrq | hrq := hrq
      · exact ⟨.clearFeatureHalt e, hrq, he⟩
      · exact ⟨.setFeatureHalt e, hrq, he⟩
    · exact exists_claims_of_plainRowClaims hp

/-- The row a packet decodes to is the one that claims it, so no other row claims it. -/
theorem decode_row_of_claims {r : Row} {p : SetupPacket} (h : r.Claims p) : (decode p).row = r := by
  rw [decode_of_claims h, row_read]

/-- Two packets of one row that read alike are the same instruction. -/
theorem decode_congr {r : Row} {p q : SetupPacket} (hp : r.Claims p) (hq : r.Claims q) (h : r.read q = r.read p) :
    decode q = decode p := by
  rw [decode_of_claims hp, decode_of_claims hq, h]

/-- What a row reads from a packet of its own is well-formed: a stall has the packet's cause. -/
theorem read_wellFormed {r : Row} {p : SetupPacket} (h : r.Claims p) : (r.read p).wellFormed = true := by
  cases r with
  | stall =>
    obtain ⟨c, hc⟩ := h
    simp [Row.read, Instr.wellFormed, hc]
  | setFeatureHalt e | clearFeatureHalt e => cases e <;> rfl
  | _ => rfl

/-- A packet that decodes to a stall is the stall's own and has its cause (60_exceptions.md R181). -/
theorem stall_of_decode {p q : SetupPacket} {c : StallCause} (h : decode p = .stall c q) :
    q = p ∧ stallCauseOf p = some c := by
  obtain ⟨r, hr⟩ := exists_claims p
  have hrow : r = .stall := by rw [← decode_row_of_claims hr, h]; rfl
  subst hrow
  obtain ⟨d, hd⟩ := hr
  obtain ⟨rfl, rfl⟩ := Instr.stall.inj (h.symm.trans (decode_of_stallCause hd))
  exact ⟨rfl, hd⟩

/-! ### The encoder -/

/-- An instruction's own packet is its row's (30_encoding.md R78, R84). -/
theorem claims_encode {i : Instr} (h : i.wellFormed = true) : i.row.Claims (encode i) := by
  cases i with
  | stall c p => exact ⟨c, eq_of_beq h⟩
  | setAddress a => exact rfl
  | getStatus => exact ⟨by decide, rfl⟩
  | getDescriptorDevice | getDescriptorConfiguration | getDescriptorHid | getDescriptorReport =>
    simp [Instr.row, Row.Claims, encode, lookup_eq_some_iff, kbdIf]
  | hidGetReport | hidGetIdle | hidGetProtocol | hidSetReport | hidSetIdle | hidSetProtocol =>
    simp [Instr.row, Row.Claims, encode]
  | _ => exact ⟨rfl, rfl⟩

/-- An instruction's row reads it back from its own packet (30_encoding.md R77). -/
theorem read_encode {i : Instr} (h : i.wellFormed = true) : i.row.read (encode i) = i := by
  cases i with
  | stall c p =>
    have hc : stallCauseOf p = some c := eq_of_beq h
    simp [Instr.row, Row.read, encode, hc]
  | setAddress | setConfiguration | getStatusEndpoint | hidSetProtocol =>
    simp [Instr.row, Row.read, encode, addressOperand, configurationOperand, endpointOperand, protocolOperand,
      extract_setWidth_of_le]
  | hidSetIdle r => simp [Instr.row, Row.read, encode, idleOperand, extract_high_le16Of]
  | getDescriptorDevice | getDescriptorConfiguration | getDescriptorHid | getDescriptorReport =>
    simp [Instr.row, Row.read, encode]
  | _ => rfl

/-! ### Which rows the table selects -/

/-- The mask 0x7F on a byte reads its low 7 bits. -/
theorem and_low7_eq_token_iff (b : Byte) (e : AppEp) :
    b &&& 127#8 = (tokenOf e).setWidth 8 ↔ b.extractLsb' 0 7 = (tokenOf e).setWidth 7 := by
  have hand : b.toNat &&& 127 = b.toNat % 128 := Nat.and_two_pow_sub_one_eq_mod b.toNat 7
  rw [← BitVec.toNat_inj, ← BitVec.toNat_inj]
  cases e <;> simp [tokenOf, hand]

theorem and_full (b : Byte) : b &&& 255#8 = b := BitVec.and_allOnes

/-- A row of the halt features asks `rt` 0x02, `val` 0 and the endpoint in `idx[6:0]` beside its `rq`. -/
theorem selects_featureHalt_iff {r : Row} {rq : Byte} {e : AppEp} (p : SetupPacket) (hrq : rq = 0x01#8 ∨ rq = 0x03#8)
    (hm : SetupPacket.ofWord r.mask = ⟨255#8, 255#8, 255#8, 255#8, 127#8, 0#8, 0#8, 0#8⟩)
    (hp : SetupPacket.ofWord r.pattern = ⟨0x02#8, rq, 0x00#8, 0x00#8, (tokenOf e).setWidth 8, 0#8, 0#8, 0#8⟩) :
    r.selects p ↔ p.rq = rq ∧ featureTarget p.rt p.rq p.val p.idx = some e := by
  rw [selects_iff, hm, hp, SetupPacket.mk.injEq, featureTarget_eq_some_iff, SetupPacket.val, le16Of_eq_iff,
    SetupPacket.idx, endpointOperand_le16Of, and_low7_eq_token_iff]
  simp only [and_full, BitVec.and_zero, SetupPacket.rt, SetupPacket.rq, and_true]
  constructor
  · rintro ⟨h0, rfl, h2, h3, h4⟩
    exact ⟨rfl, ⟨hrq, h0, h2, h3⟩, h4⟩
  · rintro ⟨rfl, ⟨-, h0, h2, h3⟩, h4⟩
    exact ⟨h0, rfl, h2, h3, h4⟩

theorem stall_selects (p : SetupPacket) : Row.stall.selects p := BitVec.and_zero

theorem getStatus_selects_iff (p : SetupPacket) : Row.getStatus.selects p ↔ p.rq = 0x00#8 := by
  simp [selects_iff, Row.mask, Row.pattern, SetupPacket.ofWord, SetupPacket.rq, and_full]

/-- The table's mask and match are the row's guard, but for the two rows whose mask leaves a part of it out
(30_encoding.md R83). -/
theorem selects_iff_claims {r : Row} (p : SetupPacket) (hs : r ≠ .stall) (hg : r ≠ .getStatus) :
    r.selects p ↔ r.Claims p := by
  cases r with
  | stall => exact absurd rfl hs
  | getStatus => exact absurd rfl hg
  | setFeatureHalt e =>
    exact selects_featureHalt_iff p (.inr rfl) (by rw [Row.mask]; decide) (by cases e <;> decide)
  | clearFeatureHalt e =>
    exact selects_featureHalt_iff p (.inl rfl) (by rw [Row.mask]; decide) (by cases e <;> decide)
  | getDescriptorDevice | getDescriptorConfiguration | getDescriptorHid | getDescriptorReport =>
    rw [Row.Claims, lookup_eq_some_iff, and_comm (a := p.idx = 0#16)]
    simp [selects_iff, Row.mask, Row.pattern, SetupPacket.ofWord, SetupPacket.val, SetupPacket.idx, SetupPacket.rq,
      le16Of_eq_iff, and_full, and_assoc]
  | _ =>
    simp [selects_iff, Row.Claims, Row.mask, Row.pattern, SetupPacket.ofWord, SetupPacket.idx, SetupPacket.rq,
      SetupPacket.rt, le16Of_eq_iff, kbdIf, and_full]

theorem claims_selects {r : Row} {p : SetupPacket} (h : r.Claims p) : r.selects p := by
  cases r with
  | stall => exact stall_selects p
  | getStatus => exact (getStatus_selects_iff p).mpr h.2
  | _ => exact (selects_iff_claims p (by simp) (by simp)).mpr h

/-- The table selects the row a packet decodes to, or one with fewer mask bits: GET_STATUS where GET_STATUS on an
endpoint is meant, the stall anywhere. -/
theorem selects_cases {r : Row} {p : SetupPacket} (h : r.selects p) :
    r = (decode p).row ∨ r = .stall ∨ (r = .getStatus ∧ (decode p).row = .getStatusEndpoint) := by
  cases r with
  | stall => exact .inr (.inl rfl)
  | getStatus =>
    have hrq := (getStatus_selects_iff p).mp h
    by_cases hrt : p.rt = 0x82#8
    · exact .inr (.inr ⟨rfl, decode_row_of_claims ⟨hrt, hrq⟩⟩)
    · exact .inl (decode_row_of_claims (r := .getStatus) ⟨hrt, hrq⟩).symm
  | _ => exact .inl (decode_row_of_claims ((selects_iff_claims p (by simp) (by simp)).mp h)).symm

theorem decode_row_selects (p : SetupPacket) : (decode p).row.selects p := by
  obtain ⟨r, hr⟩ := exists_claims p
  rw [decode_row_of_claims hr]
  exact claims_selects hr

theorem weight_stall_lt {r : Row} (h : r ≠ .stall) : Row.stall.weight < r.weight := by
  cases r with
  | stall => exact absurd rfl h
  | setFeatureHalt e | clearFeatureHalt e => cases e <;> decide
  | _ => decide

/-- A row selected beside the one a packet decodes to has fewer mask bits (30_encoding.md R83). -/
theorem weight_lt_of_selects {r : Row} {p : SetupPacket} (h : r.selects p) (hne : r ≠ (decode p).row) :
    r.weight < (decode p).row.weight := by
  obtain rfl | rfl | ⟨rfl, hd⟩ := selects_cases h
  · exact absurd rfl hne
  · exact weight_stall_lt hne.symm
  · rw [hd]
    decide

end Sys2Proof
end

section
/-! PROOFS. The encoding (30_encoding.md): the decoder, its rows and the opcode table. -/
namespace Sys2Proof.Proofs
open Machine

/-- Settles O3: beside the row a packet decodes to, the table selects only GET_STATUS and the stall, whose masks are
weaker. -/
theorem opcodeTableSelectsDecodedRow : Obligations.OpcodeTableSelectsDecodedRow := by
  unfold Obligations.OpcodeTableSelectsDecodedRow
  intro p
  refine ⟨decode_row_selects p, fun r h hne => weight_lt_of_selects h hne, fun r r' h h' hne => ?_⟩
  by_cases hr : r = (decode p).row
  · subst hr
    exact (weight_lt_of_selects h' hne.symm).ne'
  by_cases hr' : r' = (decode p).row
  · subst hr'
    exact (weight_lt_of_selects h hne).ne
  obtain rfl | ⟨rfl, -⟩ := (selects_cases h).resolve_left hr
  · exact (weight_stall_lt hne.symm).ne
  · obtain rfl | ⟨rfl, -⟩ := (selects_cases h').resolve_left hr'
    · exact (weight_stall_lt hne).ne'
    · exact absurd rfl hne

/-- Settles O1: an instruction's row claims its packet and reads the instruction from it. -/
theorem decodeEncodeRoundTrip : Obligations.DecodeEncodeRoundTrip := by
  unfold Obligations.DecodeEncodeRoundTrip
  intro i h
  rw [decode_of_claims (claims_encode h), read_encode h]

/-- Settles O2: what a row reads from a packet of its own is well-formed. -/
theorem decodedInstructionsAreWellFormed : Obligations.DecodedInstructionsAreWellFormed := by
  unfold Obligations.DecodedInstructionsAreWellFormed
  intro p
  obtain ⟨r, hr⟩ := exists_claims p
  rw [decode_of_claims hr]
  exact read_wellFormed hr

/-- Settles O5: the stall's row claims exactly the packets with a cause. -/
theorem stallsAreTheUnclaimedPackets : Obligations.StallsAreTheUnclaimedPackets := by
  unfold Obligations.StallsAreTheUnclaimedPackets
  intro p c
  exact ⟨⟨fun h => (stall_of_decode h).2, decode_of_stallCause⟩, fun q h => (stall_of_decode h).1⟩

/-- Settles O4: a row reads the same from two packets of its own that agree on the fields of its operands. -/
theorem fieldsNoRowNamesAreIgnored : Obligations.FieldsNoRowNamesAreIgnored := by
  unfold Obligations.FieldsNoRowNamesAreIgnored
  intro p q hrq
  refine ⟨?getDescriptor, ?setAddress, ?setConfiguration, ?getConfiguration, ?getStatusEndpoint, ?getStatus, ?halt,
    ?hidGet, ?hidSetReport, ?hidSetIdle, ?hidSetProtocol⟩
  case getDescriptor =>
    intro h hl hval hidx hlen
    obtain ⟨t, ht⟩ := Option.isSome_iff_exists.mp hl
    refine decode_congr (claims_of_lookup 0 h ht) (claims_of_lookup 0 (hrq.trans h) (by rw [hval, hidx, ht])) ?_
    rw [read_getDescriptor_row, read_getDescriptor_row, hlen]
  case setAddress =>
    intro h hval
    exact decode_congr (r := .setAddress) h (hrq.trans h) (congrArg Instr.setAddress hval)
  case setConfiguration =>
    intro h hp hq hval
    exact decode_congr (r := .setConfiguration) ⟨hp, h⟩ ⟨hq, hrq.trans h⟩ (congrArg Instr.setConfiguration hval)
  case getConfiguration =>
    intro h hp hq
    exact decode_congr (r := .getConfiguration) ⟨hp, h⟩ ⟨hq, hrq.trans h⟩ rfl
  case getStatusEndpoint =>
    intro h hp hq hidx
    exact decode_congr (r := .getStatusEndpoint) ⟨hp, h⟩ ⟨hq, hrq.trans h⟩ (congrArg Instr.getStatusEndpoint hidx)
  case getStatus =>
    intro h hp hq
    exact decode_congr (r := .getStatus) ⟨hp, h⟩ ⟨hq, hrq.trans h⟩ rfl
  case halt =>
    intro h hp hq hpv hqv h1 h4 hidx
    obtain ⟨e, he⟩ := exists_token_of_range h1 h4
    have hfp : featureTarget p.rt p.rq p.val p.idx = some e :=
      (featureTarget_eq_some_iff _ _ _ _ _).mpr ⟨⟨h, hp, hpv⟩, he⟩
    have hfq : featureTarget q.rt q.rq q.val q.idx = some e :=
      (featureTarget_eq_some_iff _ _ _ _ _).mpr ⟨⟨hrq ▸ h, hq, hqv⟩, hidx.trans he⟩
    obtain h | h := h
    · exact decode_congr (r := .clearFeatureHalt e) ⟨h, hfp⟩ ⟨hrq.trans h, hfq⟩ rfl
    · exact decode_congr (r := .setFeatureHalt e) ⟨h, hfp⟩ ⟨hrq.trans h, hfq⟩ rfl
  case hidGet =>
    rintro (h | h | h) hp hq hpi hqi
    · exact decode_congr (r := .hidGetReport) ⟨hp, h, hpi⟩ ⟨hq, hrq.trans h, hqi⟩ rfl
    · exact decode_congr (r := .hidGetIdle) ⟨hp, h, hpi⟩ ⟨hq, hrq.trans h, hqi⟩ rfl
    · exact decode_congr (r := .hidGetProtocol) ⟨hp, h, hpi⟩ ⟨hq, hrq.trans h, hqi⟩ rfl
  case hidSetReport =>
    intro h hp hq hpi hqi
    exact decode_congr (r := .hidSetReport) ⟨hp, h, hpi⟩ ⟨hq, hrq.trans h, hqi⟩ rfl
  case hidSetIdle =>
    intro h hp hq hpi hqi hval
    exact decode_congr (r := .hidSetIdle) ⟨hp, h, hpi⟩ ⟨hq, hrq.trans h, hqi⟩ (congrArg Instr.hidSetIdle hval)
  case hidSetProtocol =>
    intro h hp hq hpi hqi hval
    exact decode_congr (r := .hidSetProtocol) ⟨hp, h, hpi⟩ ⟨hq, hrq.trans h, hqi⟩ (congrArg Instr.hidSetProtocol hval)

/-- Settles O9, packet by packet. -/
theorem writtenPacketsDecode : Obligations.WrittenPacketsDecode := by
  unfold Obligations.WrittenPacketsDecode
  decide

end Sys2Proof.Proofs
end

section
/-! SUPPORT. Turns of the frame handler, case by case (40_frame_and_reset.md R89 to R94), an IN transaction
(45_endpoint_engine.md R163), and a host that polls the keyboard endpoint after each start of frame (R95). -/
namespace Sys2Proof.Machine

/-! ### Turns of the frame handler -/

/-- A turn with a frame event pending and the dispatcher idle is the frame handler's (60_exceptions.md R178). -/
theorem blockStep_of_framePending {s : State} (hc : s.ctl = .idle) (hp : s.framePending = true) :
    blockStep s = resultOf s.frameStep :=
  if_pos (by simp [State.frameEnabled, hc, hp])

/-- Bus-reset work consumes a SOF pending with it: it clears the configuration, without which SOF work counts
nothing (40_frame_and_reset.md R89 to R91). -/
theorem frameStep_of_reset {s : State} (hr : s.resetPending = true) :
    s.frameStep = .ok (s.resetWork.setSofPending false) := by
  have hw : s.frameStep = if s.resetWork.sofPending then s.resetWork.sofWork else .ok s.resetWork := by
    simp [State.frameStep, hr]
  rw [hw]
  cases hs : s.resetWork.sofPending with
  | true => exact sofWork_of_unconfigured (s := s.resetWork) rfl
  | false =>
    rw [if_neg Bool.false_ne_true, ← hs]
    rfl

theorem frameStep_of_sof {s : State} (hr : s.resetPending = false) (hs : s.sofPending = true) :
    s.frameStep = s.sofWork := by
  simp [State.frameStep, hr, hs]

theorem blockStep_of_reset {s : State} (hc : s.ctl = .idle) (hr : s.resetPending = true) :
    blockStep s = .next (s.resetWork.setSofPending false) := by
  rw [blockStep_of_framePending hc (by simp [State.framePending, hr]), frameStep_of_reset hr]
  rfl

theorem blockStep_of_sof {s : State} (hc : s.ctl = .idle) (hr : s.resetPending = false) (hs : s.sofPending = true) :
    blockStep s = resultOf s.sofWork := by
  rw [blockStep_of_framePending hc (by simp [State.framePending, hs]), frameStep_of_sof hr hs]

/-- The block's turn, with a SOF waiting alone and the dispatcher idle, is the SOF's work. -/
theorem step_of_sof {s : State} (hm : s.nextMove = .block) (hc : s.ctl = .idle) (hr : s.resetPending = false)
    (hs : s.sofPending = true) : step s = resultOf s.popMove.sofWork := by
  rw [step_of_nextMove hm]
  exact blockStep_of_sof (s := s.popMove) hc hr hs

/-! The three ways an idle tick ends (40_frame_and_reset.md R92 to R94). -/

theorem idleTick_of_skipped {s : State} (h : s.idleConfig = 0#8 ∨ s.txReady s.kbd = false) : s.idleTick = .ok s := by
  rw [State.idleTick, if_neg (by rcases h with h | h <;> simp [h])]

theorem idleTick_of_count {s : State} (hz : s.idleConfig ≠ 0#8) (hr : s.txReady s.kbd = true)
    (hc : s.idleCount + 1#8 ≠ s.idleConfig) : s.idleTick = .ok (s.setIdleCount (s.idleCount + 1#8)) := by
  rw [State.idleTick, if_pos ⟨hz, hr⟩, if_neg hc]

theorem idleTick_of_match {s : State} (hz : s.idleConfig ≠ 0#8) (hr : s.txReady s.kbd = true)
    (hc : s.idleCount + 1#8 = s.idleConfig) :
    s.idleTick = .ok ((s.setIdleCount 0).appendTx s.kbd [s.keys.report]) := by
  rw [State.idleTick, if_pos ⟨hz, hr⟩, if_pos hc]
  exact flushReport_of_ready (s := s.setIdleCount 0) hr

/-- The turn of the fourth SOF is the idle tick's (40_frame_and_reset.md R91). -/
theorem step_of_tick {s t : State} (hm : s.nextMove = .block) (hc : s.ctl = .idle) (hr : s.resetPending = false)
    (hs : s.sofPending = true) (hz : s.currentConfiguration ≠ 0#8) (hq : s.fq + 1#2 = 0#2)
    (ht : ((s.popMove.setSofPending false).setFq 0#2).idleTick = .ok t) : step s = .next t := by
  rw [step_of_sof hm hc hr hs, sofWork_of_tick (s := s.popMove) hz hq, ht]
  rfl

/-! ### An accepted IN (45_endpoint_engine.md R156, R163) -/

theorem epOfToken_tokenOf (a : AppEp) : epOfToken (tokenOf a) = some (appNum a) := by cases a <;> rfl

theorem hostInEvent_of_accepted {s : State} {e : BitVec 4} {i : EpNum} (hi : epOfToken e = some i)
    (hen : (s.ep i).en = true) : hostInEvent s.address e s = .next (s.takeIn i) := by
  rw [hostInEvent, (accepts_eq_some_iff s s.address e i).mpr ⟨hi, rfl, hen⟩]

theorem takeIn_of_empty {s : State} {i : EpNum} (hh : (s.ep i).halt = false) (hq : (s.ep i).txq = []) :
    s.takeIn i = s.setAnswer .nak := by
  rw [State.takeIn, if_neg (by simp [hh]), hq]

theorem takeIn_of_cons {s : State} {i : EpNum} {xs : List Byte} {rest : List (List Byte)}
    (hh : (s.ep i).halt = false) (hq : (s.ep i).txq = xs :: rest) :
    s.takeIn i = (s.setEp i { s.ep i with txq := rest, toggle := (s.ep i).toggle.flip }).setAnswer
      (.data (s.ep i).toggle xs) := by
  rw [State.takeIn, if_neg (by simp [hh]), hq]

/-- A packet armed on an empty endpoint is what the next IN takes. -/
theorem takeIn_appendTx {s : State} {i : EpNum} (xs : List Byte) (hh : (s.ep i).halt = false)
    (hq : (s.ep i).txq = []) :
    (s.appendTx i [xs]).takeIn i = (s.setEp i { s.ep i with txq := [], toggle := (s.ep i).toggle.flip }).setAnswer
      (.data (s.ep i).toggle xs) := by
  rw [takeIn_of_cons (xs := xs) (rest := [])] <;> simp [hh, hq]

/-! ### Plays -/

theorem play_cons_of_next {m : Move} {ms : List Move} {s t u : State} {as : List Answer} (hm : runMove m s = .next t)
    (hp : play ms t = some (as, u)) :
    play (m :: ms) s = some (if m = .block then as else t.answer :: as, u) := by
  simp only [play, hm, hp]

theorem rounds_succ (n : Nat) (ms : List Move) : rounds (n + 1) ms = ms ++ rounds n ms := rfl

theorem after_flip_succ (t : Toggle) (n : Nat) : t.flip.after n = t.after (n + 1) := by
  unfold Toggle.after
  rcases Nat.mod_two_eq_zero_or_one n with h | h
  · rw [if_pos h, if_neg (by omega)]
  · rw [if_neg (by omega), if_pos (by omega), Toggle.flip_flip]

/-! ### The report period -/

/-- How many SOF invocations the two counters hold since the last report: `4 * idle_count + fq`
(40_frame_and_reset.md R91, R92). -/
def State.sofPhase (s : State) : Nat := 4 * s.idleCount.toNat + s.fq.toNat

/-- The report period in SOF invocations, `4k` (40_frame_and_reset.md R95). -/
def State.reportPeriod (s : State) : Nat := 4 * s.idleConfig.toNat

/-- What a host that takes every report gets at its poll after the `n`-th SOF invocation from `s` on
(40_frame_and_reset.md R95). -/
def State.pollAnswer (s : State) (n : Nat) : Answer :=
  if (n + s.sofPhase) % s.reportPeriod = 0 then
    .data ((s.ep s.kbd).toggle.after ((n + s.sofPhase) / s.reportPeriod - 1)) s.keys.report
  else .nak

/-- The block reports and no report waits: configured, the idle interval running, the dispatcher idle, the
keyboard endpoint enabled, not halted and empty. -/
structure State.Reporting (s : State) : Prop where
  idle : s.ctl = .idle
  noReset : s.resetPending = false
  configured : s.currentConfiguration ≠ 0
  counting : s.idleCount.toNat < s.idleConfig.toNat
  en : (s.ep s.kbd).en = true
  unhalted : (s.ep s.kbd).halt = false
  empty : (s.ep s.kbd).txq = []

theorem State.Reporting.txReady {s : State} (h : s.Reporting) : s.txReady s.kbd = true :=
  (txReady_iff _).mpr ⟨h.en, by rw [h.empty]; exact banksCount_pos _⟩

theorem State.Reporting.idleConfig_ne_zero {s : State} (h : s.Reporting) : s.idleConfig ≠ 0#8 :=
  fun hz => by simpa [hz] using h.counting

/-- A SOF's work where the block reports: the phase moves on by one, and at a full period starts over with one report
armed. -/
theorem State.Reporting.sofWork_cases {s : State} (h : s.Reporting) :
    (∃ q n, 4 * n.toNat + q.toNat = s.sofPhase + 1 ∧ n.toNat < s.idleConfig.toNat ∧
      s.sofWork = .ok (((s.setSofPending false).setFq q).setIdleCount n)) ∨
    (s.sofPhase + 1 = s.reportPeriod ∧
      s.sofWork = .ok ((((s.setSofPending false).setFq 0).setIdleCount 0).appendTx s.kbd [s.keys.report])) := by
  have hlt := h.counting
  unfold State.sofPhase State.reportPeriod
  by_cases hq : s.fq + 1#2 = 0#2
  · rw [sofWork_of_tick h.configured hq]
    have hq3 : s.fq.toNat = 3 := by bv_omega
    by_cases hm : s.idleCount + 1#8 = s.idleConfig
    · refine .inr ⟨?_, idleTick_of_match (s := (s.setSofPending false).setFq 0#2) h.idleConfig_ne_zero h.txReady hm⟩
      have : s.idleCount.toNat + 1 = s.idleConfig.toNat := by bv_omega
      omega
    · refine .inl ⟨0#2, s.idleCount + 1#8, ?_, ?_,
        idleTick_of_count (s := (s.setSofPending false).setFq 0#2) h.idleConfig_ne_zero h.txReady hm⟩
      · have : (s.idleCount + 1#8).toNat = s.idleCount.toNat + 1 := by bv_omega
        simp only [BitVec.toNat_ofNat]
        omega
      · bv_omega
  · refine .inl ⟨s.fq + 1#2, s.idleCount, ?_, hlt, sofWork_of_no_tick h.configured hq⟩
    have : (s.fq + 1#2).toNat = s.fq.toNat + 1 := by bv_omega
    omega

/-- What a host polls after each start of frame: `HostSof`, the block's turn, and an IN on the keyboard endpoint. -/
def State.pollRound (s : State) : List Move := [.hostSof, .block, .hostIn s.address (tokenOf s.params.kbdEp)]

/-- A round of polling takes `s` to `t`, with the answer its phase says; the rounds after it get from `t` what they
were to get from `s`. -/
structure State.PolledTo (s t : State) : Prop where
  plays : ∀ {ms : List Move} {as : List Answer} {u : State}, play ms t = some (as, u) →
    play (s.pollRound ++ ms) s = some (.silent :: s.pollAnswer 1 :: as, u)
  reporting : t.Reporting
  pollRound : t.pollRound = s.pollRound
  pollAnswer : ∀ n, 1 ≤ n → t.pollAnswer n = s.pollAnswer (n + 1)

/-- A state whose phase is one later, and nothing reported in between. -/
theorem pollAnswer_of_phase_succ {s t : State} (hp : t.sofPhase = s.sofPhase + 1)
    (hc : t.reportPeriod = s.reportPeriod) (hg : (t.ep t.kbd).toggle = (s.ep s.kbd).toggle) (hk : t.keys = s.keys)
    (n : Nat) : t.pollAnswer n = s.pollAnswer (n + 1) := by
  unfold State.pollAnswer
  rw [hp, hc, hg, hk, show n + (s.sofPhase + 1) = n + 1 + s.sofPhase by omega]

/-- A state whose phase starts over after a report, with the toggle flipped. -/
theorem pollAnswer_of_phase_wrap {s t : State} (hw : s.sofPhase + 1 = s.reportPeriod) (hp : t.sofPhase = 0)
    (hc : t.reportPeriod = s.reportPeriod) (hg : (t.ep t.kbd).toggle = (s.ep s.kbd).toggle.flip) (hk : t.keys = s.keys)
    {n : Nat} (hn : 1 ≤ n) : t.pollAnswer n = s.pollAnswer (n + 1) := by
  unfold State.pollAnswer
  have hpos : 0 < s.reportPeriod := by omega
  rw [hp, hc, hg, hk, show n + 1 + s.sofPhase = n + s.reportPeriod by omega, Nat.add_zero, Nat.add_mod_right,
    Nat.add_div_right n hpos, after_flip_succ]
  by_cases hd : n % s.reportPeriod = 0
  · have : 1 ≤ n / s.reportPeriod := Nat.div_pos (Nat.le_of_dvd hn (Nat.dvd_of_mod_eq_zero hd)) hpos
    rw [if_pos hd, if_pos hd, Nat.sub_add_cancel this, Nat.add_sub_cancel]
  · rw [if_neg hd, if_neg hd]

/-- One round of polling, from what the SOF's work and the IN give. -/
theorem play_pollRound {s b t : State} (h : s.Reporting)
    (hw : ((s.setSofPending true).setAnswer .silent).sofWork = .ok b) (ha : b.address = s.address)
    (hen : (b.ep s.kbd).en = true) (ht : b.takeIn s.kbd = t) {ms : List Move} {as : List Answer} {u : State}
    (hp : play ms t = some (as, u)) : play (s.pollRound ++ ms) s = some (.silent :: t.answer :: as, u) := by
  have hblock : runMove .block ((s.setSofPending true).setAnswer .silent) = .next b :=
    (blockStep_of_sof (s := (s.setSofPending true).setAnswer .silent) h.idle h.noReset rfl).trans
      (congrArg resultOf hw)
  have hin : runMove (.hostIn s.address (tokenOf s.params.kbdEp)) b = .next t := by
    rw [← ha, ← ht]
    exact hostInEvent_of_accepted (epOfToken_tokenOf _) hen
  exact play_cons_of_next rfl (play_cons_of_next hblock (play_cons_of_next hin hp))

/-- The state after a round of polling that brings no report, with the counters at `q` and `n`. -/
def State.afterNak (s : State) (q : BitVec 2) (n : Byte) : State :=
  (((s.setSofPending false).setFq q).setIdleCount n).setAnswer .nak

/-- The state after a round of polling that brings a report. -/
def State.afterReport (s : State) : State :=
  ((((s.setSofPending false).setFq 0).setIdleCount 0).setEp s.kbd
    { s.ep s.kbd with txq := [], toggle := (s.ep s.kbd).toggle.flip }).setAnswer
      (.data (s.ep s.kbd).toggle s.keys.report)

@[simp] theorem afterReport_ep_kbd (s : State) : s.afterReport.ep s.kbd =
    { s.ep s.kbd with txq := [], toggle := (s.ep s.kbd).toggle.flip } := State.setEp_ep_same _ _ _

theorem State.Reporting.polledTo_afterNak {s : State} (h : s.Reporting) {q : BitVec 2} {n : Byte}
    (hphase : 4 * n.toNat + q.toNat = s.sofPhase + 1) (hn : n.toNat < s.idleConfig.toNat)
    (hw : ((s.setSofPending true).setAnswer .silent).sofWork =
      .ok ((((s.setAnswer .silent).setSofPending false).setFq q).setIdleCount n)) : s.PolledTo (s.afterNak q n) where
  plays {ms as u} hp := by
    have hans : s.pollAnswer 1 = .nak := by
      have hlt : 1 + s.sofPhase < s.reportPeriod := by
        unfold State.reportPeriod
        omega
      rw [State.pollAnswer, Nat.mod_eq_of_lt hlt, if_neg (by omega)]
    rw [hans]
    exact play_pollRound h hw rfl h.en (takeIn_of_empty h.unhalted h.empty) hp
  reporting := ⟨h.idle, h.noReset, h.configured, hn, h.en, h.unhalted, h.empty⟩
  pollRound := rfl
  pollAnswer m _ := pollAnswer_of_phase_succ (t := s.afterNak q n) hphase rfl rfl rfl m

theorem State.Reporting.polledTo_afterReport {s : State} (h : s.Reporting) (hphase : s.sofPhase + 1 = s.reportPeriod)
    (hw : ((s.setSofPending true).setAnswer .silent).sofWork =
      .ok (((((s.setAnswer .silent).setSofPending false).setFq 0).setIdleCount 0).appendTx s.kbd [s.keys.report])) :
    s.PolledTo s.afterReport where
  plays {ms as u} hp := by
    have hans : s.pollAnswer 1 = .data (s.ep s.kbd).toggle s.keys.report := by
      rw [State.pollAnswer, Nat.add_comm, hphase, Nat.mod_self, if_pos rfl, Nat.div_self (by omega)]
      rfl
    rw [hans]
    exact play_pollRound h hw rfl (by simpa using h.en) (takeIn_appendTx _ h.unhalted h.empty) hp
  reporting :=
    have hpos : 0 < s.idleConfig.toNat := Nat.zero_lt_of_lt h.counting
    ⟨h.idle, h.noReset, h.configured, hpos, (congrArg Endpoint.en (afterReport_ep_kbd s)).trans h.en,
      (congrArg Endpoint.halt (afterReport_ep_kbd s)).trans h.unhalted, congrArg Endpoint.txq (afterReport_ep_kbd s)⟩
  pollRound := rfl
  pollAnswer m hm :=
    pollAnswer_of_phase_wrap (t := s.afterReport) hphase rfl rfl (congrArg Endpoint.toggle (afterReport_ep_kbd s)) rfl hm

theorem State.Reporting.exists_polledTo {s : State} (h : s.Reporting) : ∃ t, s.PolledTo t := by
  have h' : ((s.setSofPending true).setAnswer .silent).Reporting :=
    ⟨h.idle, h.noReset, h.configured, h.counting, h.en, h.unhalted, h.empty⟩
  rcases h'.sofWork_cases with ⟨q, n, hphase, hn, hw⟩ | ⟨hphase, hw⟩
  · exact ⟨_, h.polledTo_afterNak hphase hn hw⟩
  · exact ⟨_, h.polledTo_afterReport hphase hw⟩

theorem State.Reporting.poll {s : State} (h : s.Reporting) (n : Nat) :
    ∃ as t, play (rounds n s.pollRound) s = some (as, t) ∧
      ∀ j, j < n → as[2 * j + 1]? = some (s.pollAnswer (j + 1)) := by
  induction n generalizing s with
  | zero => exact ⟨[], s, rfl, fun j hj => absurd hj (Nat.not_lt_zero j)⟩
  | succ n ih =>
    obtain ⟨t, hst⟩ := h.exists_polledTo
    obtain ⟨as, u, hplay, has⟩ := ih hst.reporting
    rw [hst.pollRound] at hplay
    refine ⟨_, u, hst.plays hplay, fun j hj => ?_⟩
    cases j with
    | zero => rfl
    | succ j =>
      rw [← hst.pollAnswer (j + 1) (Nat.succ_pos j)]
      exact has j (Nat.lt_of_succ_lt_succ hj)

end Sys2Proof.Machine
end

section
/-! PROOFS. The frame handler: bus-reset work, SOF work, the idle tick and the report period
(40_frame_and_reset.md). -/
namespace Sys2Proof.Proofs
open Machine

/-- Settles O28: the reset work leaves the block unconfigured, so a pending SOF is only consumed. -/
theorem busResetWorkRestoresEndpointZero : Obligations.BusResetWorkRestoresEndpointZero := by
  unfold Obligations.BusResetWorkRestoresEndpointZero
  intro s hm hc hr
  rw [step_of_nextMove hm]
  exact blockStep_of_reset (s := s.popMove) hc hr

/-- Settles O29, by whether the block is configured. -/
theorem startOfFrameCountsQuarters : Obligations.StartOfFrameCountsQuarters := by
  unfold Obligations.StartOfFrameCountsQuarters
  intro s hm hc hr hs
  rw [step_of_sof hm hc hr hs]
  refine ⟨fun hz => ?_, fun hz hq => ?_⟩
  · rw [sofWork_of_unconfigured (s := s.popMove) hz]
    rfl
  · have hq' : s.fq + 1#2 ≠ 0#2 := by bv_omega
    rw [sofWork_of_no_tick (s := s.popMove) hz hq']
    rfl

/-- Settles O30, by the three ways an idle tick ends. -/
theorem idleTickCountsAndReports : Obligations.IdleTickCountsAndReports := by
  unfold Obligations.IdleTickCountsAndReports
  intro s hm hc hr hs hz hq k
  have hq' : s.fq + 1#2 = 0#2 := by rw [hq]; rfl
  have tick {t : State} := step_of_tick (t := t) hm hc hr hs hz hq'
  refine ⟨fun hskip => ?skipped, fun hi hen hfree => ?writable⟩
  case skipped => exact tick (idleTick_of_skipped (hskip.imp_right (txReady_eq_false_iff k).mpr))
  case writable =>
    have hready : k.txReady = true := (txReady_iff k).mpr ⟨hen, hfree⟩
    refine ⟨fun hn => ?counted, fun hn => ?reported⟩
    case counted => exact tick (idleTick_of_count hi hready hn)
    case reported =>
      exact ⟨_, tick (idleTick_of_match hi hready hn), rfl, State.setEp_ep_same _ _ _,
        fun i hne => State.setEp_ep_of_ne _ _ _ hne⟩

/-- Settles O31, by induction on the rounds: each moves the phase `4 * idle_count + fq` on by one, and a report comes
where it reaches `4k` and starts over. -/
theorem reportEveryFourKInvocations : Obligations.ReportEveryFourKInvocations := by
  unfold Obligations.ReportEveryFourKInvocations
  rintro s k n hc hr hz rfl hk h0 hen hh hq
  have hrep : s.Reporting := ⟨hc, hr, hz, by rw [h0]; exact hk, hen, hh, hq⟩
  obtain ⟨as, t, hplay, has⟩ := hrep.poll n
  refine ⟨as, t, hplay, fun j hj => ?_⟩
  have hphase : s.sofPhase = s.fq.toNat := by simp [State.sofPhase, h0]
  rw [has j hj, State.pollAnswer, hphase]
  rfl

end Sys2Proof.Proofs
end

section
/-! SUPPORT. The dispatcher's turns and a request's decode step, instruction by instruction (41_dispatcher.md R101 to
R107), and the transactions of a halted endpoint (45_endpoint_engine.md R157, R163, R164). -/
namespace Sys2Proof.Machine

/-! ### Turns of the dispatcher -/

/-- A turn with only the dispatcher enabled is the dispatcher's (60_exceptions.md R178). -/
theorem blockStep_of_dispatcher {s : State} (hf : s.frameEnabled = false) (hd : s.dispatcherEnabled = true) :
    blockStep s = dispatcherStep s := by
  rw [blockStep, if_neg (by simp [hf]), if_pos hd]

theorem dispatcherEnabled_of_setupReceived {s : State} (hc : s.ctl = .setupReceived) : s.dispatcherEnabled = true := by
  simp [State.dispatcherEnabled, hc]

/-- A pending SETUP of an enabled source, with no frame event before it, enables an idle dispatcher
(41_dispatcher.md R101). -/
theorem dispatcherEnabled_of_pendingSetup {s : State} (hc : s.ctl = .idle) (hp : s.setupPending = true)
    (hen : (s.ep .e0).en = true) (hie : s.setupIe = true) (hf : s.framePending = false) :
    s.dispatcherEnabled = true := by
  rw [dispatcherEnabled_of_idle hc]
  simp [State.setupSourceEnabled, hp, hen, hie, hf]

/-- An idle block's turn decodes the pending SETUP (41_dispatcher.md R103). -/
theorem blockStep_of_pendingSetup {s : State} (hc : s.ctl = .idle) (hp : s.setupPending = true)
    (hen : (s.ep .e0).en = true) (hie : s.setupIe = true) (hf : s.framePending = false) :
    blockStep s = exec (decode s.setupBuf) (s.setSetupPending false) :=
  (blockStep_of_dispatcher (frameEnabled_of_not_pending hf)
    (dispatcherEnabled_of_pendingSetup hc hp hen hie hf)).trans (dispatcherStep_of_decode (.inl hc))

theorem statusStep_of_ready {s : State} (h : s.txReady .e0 = true) :
    statusStep s = .ok ((s.appendTx .e0 [[]]).setCtl .idle) := by
  rw [statusStep, armTx_of_ready h (Nat.zero_le _)]

/-! ### What each instruction writes -/

/-- The states `Execute(a)` can end in, each with the instructions that end there (41_dispatcher.md R104). -/
inductive Effect (s : State) : Instr → State → Prop where
  | ctlOnly (i : Instr) (c : Ctl) : Effect s i (s.setCtl c)
  | setIdle (r : Byte) : Effect s (.hidSetIdle r) (((s.setIdleConfig r).setIdleCount 0).setCtl .statusIn)
  | setProtocol (p : Byte) : Effect s (.hidSetProtocol p) ((s.setProtocol p).setCtl .statusIn)
  | setConfiguration (v : Byte) : Effect s (.setConfiguration v)
      ((((s.setCurrentConfiguration v).disableApp).configureApp).setCtl .statusIn)
  | setHalt (a : AppEp) : Effect s (setHaltInstr a) ((s.raiseStall (appNum a)).setCtl .statusIn)
  | clearHalt (a : AppEp) : Effect s (clearHaltInstr a)
      (((s.clearStall (appNum a)).setToggle (appNum a) .data0).setCtl .statusIn)
  | stall (c : StallCause) (p : SetupPacket) : Effect s (.stall c p) (s.takeStall c)

theorem getDescriptor_effect {d : DescTable} {len : U16} {s t : State} (i : Instr)
    (h : getDescriptor d len s = .next t) : Effect s i t := by
  obtain ⟨bs, rfl⟩ := getDescriptor_next h
  exact .ctlOnly i (.dataIn bs)

/-- What each instruction's decode step writes (41_dispatcher.md R104). -/
theorem exec_effect {i : Instr} {s t : State} (h : exec i s = .next t) : Effect s i t := by
  cases i with
  | getDescriptorDevice | getDescriptorConfiguration | getDescriptorHid | getDescriptorReport =>
    exact getDescriptor_effect _ h
  | setAddress | getConfiguration | getStatusEndpoint | getStatus | hidGetReport | hidGetIdle | hidGetProtocol
  | hidSetReport => cases h; exact .ctlOnly _ _
  | setConfiguration v => cases h; exact .setConfiguration v
  | setFeatureHaltEp1 => cases h; exact .setHalt .ep1
  | setFeatureHaltEp2 => cases h; exact .setHalt .ep2
  | setFeatureHaltEp3 => cases h; exact .setHalt .ep3
  | setFeatureHaltEp4 => cases h; exact .setHalt .ep4
  | clearFeatureHaltEp1 => cases h; exact .clearHalt .ep1
  | clearFeatureHaltEp2 => cases h; exact .clearHalt .ep2
  | clearFeatureHaltEp3 => cases h; exact .clearHalt .ep3
  | clearFeatureHaltEp4 => cases h; exact .clearHalt .ep4
  | hidSetIdle r => cases h; exact .setIdle r
  | hidSetProtocol p => cases h; exact .setProtocol p
  | stall c p => cases h; exact .stall c p

namespace Effect

variable {i : Instr} {s t : State}

/-- No instruction writes any other register than these. -/
theorem writes_only (h : Effect s i t) :
    t = { s with
      currentConfiguration := t.currentConfiguration
      idleConfig := t.idleConfig
      idleCount := t.idleCount
      protocol := t.protocol
      ctl := t.ctl
      eps := t.eps
      lastStall := t.lastStall } := by
  cases h <;> rfl

/-- Only SET_CONFIGURATION writes `current_configuration` (42_standard_requests.md R120). -/
theorem currentConfiguration (h : Effect s i t) (hi : ∀ v, i ≠ .setConfiguration v) :
    t.currentConfiguration = s.currentConfiguration := by
  cases h with
  | setConfiguration v => exact absurd rfl (hi v)
  | ctlOnly | setIdle | setProtocol | setHalt | clearHalt | stall => rfl

/-- Only SET_IDLE writes the idle registers (44_hid_requests.md R152). -/
theorem idle (h : Effect s i t) (hi : ∀ r, i ≠ .hidSetIdle r) :
    t.idleConfig = s.idleConfig ∧ t.idleCount = s.idleCount := by
  cases h with
  | setIdle r => exact absurd rfl (hi r)
  | ctlOnly | setProtocol | setConfiguration | setHalt | clearHalt | stall => exact ⟨rfl, rfl⟩

/-- Only SET_PROTOCOL writes `protocol` (44_hid_requests.md R153). -/
theorem protocol (h : Effect s i t) (hi : ∀ p, i ≠ .hidSetProtocol p) : t.protocol = s.protocol := by
  cases h with
  | setProtocol p => exact absurd rfl (hi p)
  | ctlOnly | setIdle | setConfiguration | setHalt | clearHalt | stall => rfl

/-- Only a stall writes `last_stall` and endpoint 0 (41_dispatcher.md R106). -/
theorem lastStall_ep0 (h : Effect s i t) (hi : ∀ c p, i ≠ .stall c p) :
    t.lastStall = s.lastStall ∧ t.ep .e0 = s.ep .e0 := by
  cases h with
  | stall c p => exact absurd rfl (hi c p)
  | ctlOnly | setIdle | setProtocol | setConfiguration => exact ⟨rfl, rfl⟩
  | setHalt a => simp [State.raiseStall]
  | clearHalt a => simp [State.clearStall, State.setToggle]

/-- A stall writes no other register of endpoint 0 than its halt (41_dispatcher.md R106). -/
theorem ep0 (h : Effect s i t) : t.ep .e0 = { s.ep .e0 with halt := (t.ep .e0).halt } := by
  cases h with
  | ctlOnly | setIdle | setProtocol | setConfiguration | stall => rfl
  | setHalt a => simp [State.raiseStall]
  | clearHalt a => simp [State.clearStall, State.setToggle]

/-- Beside SET_CONFIGURATION only the two halt features write a slot, each its own (42_standard_requests.md R122,
R123). -/
theorem slot_cases (h : Effect s i t) (hi : ∀ v, i ≠ .setConfiguration v) (a : AppEp) :
    t.ep (appNum a) = s.ep (appNum a) ∨
    (i = setHaltInstr a ∧ t.ep (appNum a) = { s.ep (appNum a) with halt := true }) ∨
    (i = clearHaltInstr a ∧ t.ep (appNum a) = { s.ep (appNum a) with halt := false, toggle := .data0 }) := by
  cases h with
  | setConfiguration v => exact absurd rfl (hi v)
  | ctlOnly | setIdle | setProtocol => exact .inl rfl
  | setHalt b =>
    by_cases hab : a = b
    · exact .inr (.inl ⟨by rw [hab], by simp [hab, State.raiseStall]⟩)
    · exact .inl (State.setEp_ep_of_ne s _ _ (mt appNum_inj hab))
  | clearHalt b =>
    by_cases hab : a = b
    · exact .inr (.inr ⟨by rw [hab], by simp [hab, State.clearStall, State.setToggle]⟩)
    · exact .inl (by simp [State.clearStall, State.setToggle, State.setEp_ep_of_ne, mt appNum_inj hab])
  | stall c p => exact .inl (setEp_e0_ep_appNum s _ a)

end Effect

/-! ### The host's transactions with a halted endpoint -/

theorem hostSetupEvent_of_accepted {addr : U7} {s : State} (p : SetupPacket) (ha : addr = s.address)
    (hen : (s.ep .e0).en = true) : hostSetupEvent addr 0 p.bytes s = .next ((s.latchSetup p).setAnswer .ack) := by
  rw [hostSetupEvent, (accepts_eq_some_iff s addr 0 .e0).mpr ⟨rfl, ha, hen⟩]
  rfl

theorem hostInEvent_of_halt {addr : U7} {e : BitVec 4} {i : EpNum} {s : State} (hi : epOfToken e = some i)
    (ha : addr = s.address) (hen : (s.ep i).en = true) (hh : (s.ep i).halt = true) :
    hostInEvent addr e s = .next (s.setAnswer .stall) := by
  rw [ha, hostInEvent_of_accepted hi hen, State.takeIn, if_pos hh]

theorem hostOutEvent_of_halt {addr : U7} {e : BitVec 4} {i : EpNum} {xs : List Byte} {s : State}
    (hi : epOfToken e = some i) (ha : addr = s.address) (hen : (s.ep i).en = true) (hdir : (s.ep i).dir = .both)
    (hh : (s.ep i).halt = true) (hl : xs.length ≤ (s.ep i).size.bytes) :
    hostOutEvent addr e xs s = .next (s.setAnswer .stall) := by
  rw [hostOutEvent, (accepts_eq_some_iff s addr e i).mpr ⟨hi, ha, hen⟩]
  simp [hl.not_gt, State.takeOut, hdir, hh]

/-- A SETUP latched by an idle block: the transfer before it is dropped and the halt cleared
(45_endpoint_engine.md R157). -/
theorem latchSetup_of_idle {s : State} (p : SetupPacket) (hc : s.ctl = .idle) :
    s.latchSetup p = ((s.setSetupBuf p).setEp .e0
      { s.ep .e0 with halt := false, toggle := .data1, txq := [], rxq := [] }).setSetupPending true := by
  rw [latchSetup_eq, if_pos hc, ← hc]
  rfl

/-- The state that a SETUP, once stalled, leaves: endpoint 0 is halted and its transfer dropped, the cause is recorded
(41_dispatcher.md R106, 45_endpoint_engine.md R157). -/
def State.stalled (s : State) (p : SetupPacket) (c : StallCause) : State :=
  (((s.setSetupBuf p).setEp .e0
    { s.ep .e0 with halt := true, txq := [], rxq := [], toggle := .data1 }).setSetupPending false).setLastStall (some c)

@[simp] theorem stalled_ep_e0 (s : State) (p : SetupPacket) (c : StallCause) : (s.stalled p c).ep .e0 =
    { s.ep .e0 with halt := true, txq := [], rxq := [], toggle := .data1 } := rfl

@[simp] theorem stalled_address (s : State) (p : SetupPacket) (c : StallCause) : (s.stalled p c).address = s.address :=
  rfl

@[simp] theorem stalled_ctl (s : State) (p : SetupPacket) (c : StallCause) : (s.stalled p c).ctl = s.ctl := rfl

/-- Between transfers the block's next turn decodes a latched SETUP, here to a stall (41_dispatcher.md R103, R106). -/
theorem blockStep_latched_of_stall {s : State} {p : SetupPacket} {c : StallCause} (h : s.Ready)
    (hp : decode p = .stall c p) (x : Answer) :
    blockStep ((s.latchSetup p).setAnswer x) = .next ((s.stalled p c).setAnswer x) := by
  obtain ⟨hc, ⟨hen, -⟩, hie, hf⟩ := h
  rw [latchSetup_of_idle p hc, blockStep_of_pendingSetup (by simp [hc]) (by simp) (by simp [hen]) (by simp [hie])
    (by simpa [State.framePending] using hf)]
  simp only [State.setAnswer_setupBuf, State.setSetupPending_setupBuf, State.setEp_setupBuf,
    State.setSetupBuf_setupBuf, hp]
  cases s
  cases hc
  rfl

end Sys2Proof.Machine
end

section
/-! PROOFS. The dispatcher: the decode step, the stall, the status packet and every instruction's frame
(41_dispatcher.md). -/
namespace Sys2Proof.Proofs
open Machine

/-- Settles O22, register by register, by what each instruction's decode step writes. -/
theorem instructionsKeepTheirFrame : Obligations.InstructionsKeepTheirFrame := by
  unfold Obligations.InstructionsKeepTheirFrame
  intro i s t hexec
  have h : Effect s i t := exec_effect hexec
  have keeps {α : Type} (f : State → α) := congrArg f h.writes_only
  refine ⟨h.currentConfiguration, h.idle, h.protocol, h.lastStall_ep0, h.ep0, fun hv a => ?slot,
    keeps State.keys, keeps State.leds, keeps State.fq, keeps State.address, keeps State.resetPending,
    keeps State.sofPending, keeps State.setupPending, keeps State.setupBuf, keeps State.setupIe,
    keeps State.params, keeps State.env, keeps State.answer, keeps State.draws, fun n => keeps (readCell ·.rom n)⟩
  case slot =>
    obtain ht | ⟨rfl, ht⟩ | ⟨rfl, ht⟩ := h.slot_cases hv a
    · rw [ht]
      exact ⟨rfl, fun _ _ => rfl, fun _ => rfl⟩
    · rw [ht]
      exact ⟨rfl, fun hn => absurd rfl hn, fun _ => rfl⟩
    · rw [ht]
      exact ⟨rfl, fun _ hn => absurd rfl hn, fun hn => absurd rfl hn⟩

/-- Settles O57, move by move: the latched SETUP is decoded to a stall, whose halt answers the IN and the OUT
until the next SETUP clears it. -/
theorem stalledEndpointTakesTheNextSetup : Obligations.StalledEndpointTakesTheNextSetup := by
  unfold Obligations.StalledEndpointTakesTheNextSetup
  intro s p q c hs hp
  have ⟨hc, ⟨hen, _, hdir, _, _⟩, _, _⟩ := hs
  have hsetup : runMove (.hostSetup s.address 0 p.bytes) s = .next ((s.latchSetup p).setAnswer .ack) :=
    hostSetupEvent_of_accepted p rfl hen
  have hstall : runMove .block ((s.latchSetup p).setAnswer .ack) = .next ((s.stalled p c).setAnswer .ack) :=
    blockStep_latched_of_stall hs hp .ack
  have hin : runMove (.hostIn s.address 0) ((s.stalled p c).setAnswer .ack) =
      .next ((s.stalled p c).setAnswer .stall) :=
    hostInEvent_of_halt (i := .e0) rfl (by simp) (by simp [hen]) (by simp)
  have hout : runMove (.hostOut s.address 0 []) ((s.stalled p c).setAnswer .stall) =
      .next ((s.stalled p c).setAnswer .stall) :=
    hostOutEvent_of_halt (i := .e0) rfl (by simp) (by simp [hen]) (by simp [hdir]) (by simp) (Nat.zero_le _)
  have hnext : runMove (.hostSetup s.address 0 q.bytes) ((s.stalled p c).setAnswer .stall) =
      .next ((((s.stalled p c).setAnswer .stall).latchSetup q).setAnswer .ack) :=
    hostSetupEvent_of_accepted q (by simp) (by simp [hen])
  refine ⟨_, _, play_cons_of_next hsetup (play_cons_of_next hstall (play_cons_of_next hin
    (play_cons_of_next hout rfl))), rfl, play_cons_of_next hnext rfl, ?_⟩
  rw [latchSetup_of_idle q (by simp [hc])]
  exact ⟨rfl, rfl⟩

/-- Settles O10: either hypothesis enables the dispatcher and leaves the frame handler disabled. -/
theorem stepRunsDecodedSetup : Obligations.StepRunsDecodedSetup := by
  unfold Obligations.StepRunsDecodedSetup
  rintro s hm (hc | ⟨hc, hp, hen, hie, hr, hs⟩)
  · exact step_of_decode hm (frameEnabled_of_ctl_ne_idle (by simp [hc])) (dispatcherEnabled_of_setupReceived hc)
      (.inr hc)
  · have hf : s.framePending = false := by simp [State.framePending, hr, hs]
    exact step_of_decode hm (frameEnabled_of_not_pending hf) (dispatcherEnabled_of_pendingSetup hc hp hen hie hf)
      (.inl hc)

/-- Settles O21: the three updates of `stall()` are the whole of a stall's decode step. -/
theorem stallMutatesNoDeviceState : Obligations.StallMutatesNoDeviceState := by
  unfold Obligations.StallMutatesNoDeviceState
  intro c p s
  rfl

/-- Settles O23: endpoint 0's free bank ends the wait, and the empty packet fits any size. -/
theorem statusStageArmsAnEmptyPacket : Obligations.StatusStageArmsAnEmptyPacket := by
  unfold Obligations.StatusStageArmsAnEmptyPacket
  intro s hm hc hen hfree
  have hready : s.txReady .e0 = true := (txReady_iff _).mpr ⟨hen, hfree⟩
  obtain ⟨hne, hd⟩ := dispatcherEnabled_of_bankWait (.inr (.inl hc))
  calc step s = blockStep s.popMove := step_of_nextMove hm
    _ = dispatcherStep s.popMove :=
        blockStep_of_dispatcher (s := s.popMove) (frameEnabled_of_ctl_ne_idle hne) (hd.trans hready)
    _ = resultOf (statusStep s.popMove) := by rw [dispatcherStep, show s.popMove.ctl = .statusIn from hc]
    _ = _ := by rw [statusStep_of_ready (s := s.popMove) hready]; rfl

end Sys2Proof.Proofs
end

section
/-! SUPPORT. What the standard requests answer and write in their decode step (42_standard_requests.md R116 to R124),
and the packets of theirs that are stalled. -/
namespace Sys2Proof.Machine

/-! ### GET_DESCRIPTOR (R116, R117) -/

theorem exec_getDescriptorInstr (len : U16) (t : DescTable) (s : State) :
    exec (getDescriptorInstr len t) s = getDescriptor t len s := by cases t <;> rfl

theorem getDescriptor_of_memRead {t : DescTable} {len : U16} {s : State} {bs : List Byte}
    (h : s.memRead t.base (min len.toNat (t.dlen s.params)) = some bs) :
    getDescriptor t len s = .next (s.setCtl (.dataIn bs)) := by
  rw [getDescriptor, h]
  rfl

/-- On a loaded ROM the answer is the table's first bytes (43_descriptor_engine.md R136). -/
theorem getDescriptor_of_loaded {s : State} (t : DescTable) (len : U16)
    (h : ∀ a, a < romSize s.params → (readCell s.rom a).isSome = true) :
    ∃ bs, getDescriptor t len s = .next (s.setCtl (.dataIn bs)) ∧ bs.length = min len.toNat (t.dlen s.params) ∧
      ∀ k, k < min len.toNat (t.dlen s.params) → readCell s.rom (t.base + k) = bs[k]? := by
  obtain ⟨bs, hbs⟩ := memRead_table s t _ (Nat.min_le_right len.toNat _) h
  obtain ⟨-, hlen, hread⟩ := (memRead_eq_some_iff s _ _ bs).mp hbs
  exact ⟨bs, getDescriptor_of_memRead hbs, hlen, hread⟩

/-- A byte of the range that the ROM does not hold is the model fault (20_memory.md R54). -/
theorem getDescriptor_of_missing {s : State} {t : DescTable} {len : U16} {k : Nat}
    (hk : k < min len.toNat (t.dlen s.params)) (h : readCell s.rom (t.base + k) = none) :
    getDescriptor t len s = .fault .romOutOfRange := by
  cases hm : s.memRead t.base (min len.toNat (t.dlen s.params)) with
  | none => rw [getDescriptor, hm]
  | some bs =>
    obtain ⟨-, hlen, hread⟩ := (memRead_eq_some_iff s _ _ bs).mp hm
    have hn : bs[k]? = none := (hread k hk).symm.trans h
    rw [List.getElem?_eq_none_iff] at hn
    omega

/-- On a loaded ROM every instruction completes: only a ROM read can fault (20_memory.md R54). -/
theorem exec_ok_of_romLoaded {s : State} (i : Instr) (h : s.RomLoaded) : ∃ t, exec i s = .next t := by
  have table (t : DescTable) (len : U16) : ∃ u, getDescriptor t len s = .next u := by
    obtain ⟨bs, hbs, -⟩ := getDescriptor_of_loaded t len h.2
    exact ⟨_, hbs⟩
  cases i with
  | getDescriptorDevice len => exact table .device len
  | getDescriptorConfiguration len => exact table .configuration len
  | getDescriptorHid len => exact table .hid len
  | getDescriptorReport len => exact table .report len
  | _ => exact ⟨_, rfl⟩

/-! ### GET_STATUS and the halt features (R119, R122, R123) -/

theorem exec_getStatusEndpoint (e : U7) (s : State) :
    exec (.getStatusEndpoint e) s = .next (s.setCtl (.dataIn [if haltReported e s then 1 else 0, 0])) := rfl

theorem exec_setHaltInstr (a : AppEp) (s : State) : exec (setHaltInstr a) s =
    .next ((s.setEp (appNum a) { s.ep (appNum a) with halt := true }).setCtl .statusIn) := by cases a <;> rfl

theorem exec_clearHaltInstr (a : AppEp) (s : State) : exec (clearHaltInstr a) s =
    .next ((s.setEp (appNum a) { s.ep (appNum a) with halt := false, toggle := .data0 }).setCtl .statusIn) := by
  have hexec : exec (clearHaltInstr a) s = clearHalt a s := by cases a <;> rfl
  simp [hexec, clearHalt, State.clearStall, State.setToggle, State.noData]

theorem haltReported_zero {e : U7} (s : State) (h : e.toNat = 0) : haltReported e s = (s.ep .e0).halt :=
  if_pos (BitVec.eq_of_toNat_eq h)

/-- The number of a slot reports the slot's halt bit, enabled or not. -/
theorem haltReported_token {e : U7} {a : AppEp} (s : State) (h : e.toNat = (tokenOf a).toNat) :
    haltReported e s = (s.ep (appNum a)).halt := by
  have he : e = (tokenOf a).setWidth 7 := BitVec.eq_of_toNat_eq (h.trans (by cases a <;> rfl))
  have h0 : e ≠ 0#7 := by rw [he]; cases a <;> decide
  rw [haltReported, if_neg h0, (appEpOf_eq_some_iff e a).mpr he]

/-- A number with no slot reports no halt. -/
theorem haltReported_above {e : U7} (s : State) (h : 5 ≤ e.toNat) : haltReported e s = false := by
  have h0 : e ≠ 0#7 := fun he => by simp [he] at h
  have hn : appEpOf e = none := by
    rw [Option.eq_none_iff_forall_ne_some]
    intro a ha
    rw [(appEpOf_eq_some_iff e a).mp ha] at h
    cases a <;> exact absurd h (by decide)
  rw [haltReported, if_neg h0, hn]

/-! ### The configuration (R120, R121) -/

theorem exec_getConfiguration (s : State) :
    exec .getConfiguration s = .next (s.setCtl (.dataIn [s.currentConfiguration])) := rfl

theorem exec_setConfiguration (v : Byte) (s : State) : exec (.setConfiguration v) s =
    .next ((((s.setCurrentConfiguration v).disableApp).configureApp).setCtl .statusIn) := rfl

/-- The keyboard slot's entry of the Endpoint Configuration Table (10_state.md R36). -/
theorem configureSlot_kbd (p : Params) (e : Endpoint) : configureSlot p p.kbdEp e =
    { e with en := true, type := .interrupt, dir := .in, size := .b8, banks := p.kbdBanks } := if_pos rfl

/-! ### Stalled packets (R117, R124) -/

theorem exec_of_stallCause {p : SetupPacket} {c : StallCause} (s : State) (h : stallCauseOf p = some c) :
    exec (decode p) s = .next (s.takeStall c) := by
  rw [decode_of_stallCause h]
  rfl

theorem stallCauseOf_of_lookup_none {p : SetupPacket} (hrq : p.rq = 0x06#8) (h : lookup p.val p.idx = none) :
    stallCauseOf p = some .descriptorNotFound := by
  rw [stallCauseOf, if_pos hrq, h]
  rfl

theorem stallCauseOf_of_featureTarget_none {p : SetupPacket} (hrq : p.rq = 0x01#8 ∨ p.rq = 0x03#8)
    (hrt : p.rt = 0x02#8) (h : featureTarget p.rt p.rq p.val p.idx = none) :
    stallCauseOf p = some .badFeatureTarget := by
  have h6 : p.rq ≠ 0x06#8 := by rcases hrq with hrq | hrq <;> simp [hrq]
  rw [stallCauseOf, if_neg h6, if_pos ⟨hrq, hrt⟩, h]
  rfl

/-- Apart from the endpoint recipient, the keyboard interface's HID GETs alone have the features' request numbers
(30_encoding.md R73). -/
theorem stallCauseOf_of_other_recipient {p : SetupPacket} (hrq : p.rq = 0x01#8 ∨ p.rq = 0x03#8)
    (hrt : p.rt ≠ 0x02#8) (h : ¬(p.rt = 0xA1#8 ∧ p.idx = kbdIf)) : stallCauseOf p = some .unsupported := by
  have h6 : p.rq ≠ 0x06#8 := by rcases hrq with hrq | hrq <;> simp [hrq]
  have hp : ¬plainRowClaims p.rt p.rq p.idx = true := by
    rw [plainRowClaims_iff]
    rcases hrq with hrq | hrq <;> simpa [hrq, and_comm] using h
  rw [stallCauseOf, if_neg h6, if_neg fun hf => hrt hf.2, if_neg hp]

end Sys2Proof.Machine
end

section
/-! SUPPORT. Control transfers of one packet, as moves: the SETUP, its decode step, the packet the dispatcher arms and
the IN that takes it (41_dispatcher.md R103 to R107, 45_endpoint_engine.md R157, R163). -/
namespace Sys2Proof.Machine

/-! ### The turns that arm one packet -/

/-- The dispatcher, waiting in `c`, arms the one packet `bs` and goes to `c'` (41_dispatcher.md R107,
42_standard_requests.md R118, 43_descriptor_engine.md R138). -/
inductive Ctl.Arms : (c : Ctl) → (bs : List Byte) → (c' : Ctl) → Prop where
  | dataIn (bs : List Byte) : Arms (.dataIn bs) bs .idle
  | statusIn : Arms .statusIn [] .idle
  | statusInAddr (a : U7) : Arms (.statusInAddr a) [] (.addressWait a)

/-- A data stage of one packet is one chunk (43_descriptor_engine.md R138). -/
theorem chunkStep_of_fits {s : State} {bs : List Byte} (hr : s.txReady .e0 = true)
    (hz : (s.ep .e0).size = ep0SizeOf s.params.ep0Size) (hl : bs.length ≤ (s.ep .e0).size.bytes) :
    chunkStep bs s = .ok ((s.appendTx .e0 [bs]).setCtl .idle) := by
  rw [chunkStep, ← hz, Nat.min_eq_left hl, List.take_length, List.drop_length, armTx_of_ready hr hl]
  rfl

theorem statusAddrStep_of_ready {s : State} (a : U7) (hr : s.txReady .e0 = true) :
    statusAddrStep a s = .ok ((s.appendTx .e0 [[]]).setCtl (.addressWait a)) := by
  rw [statusAddrStep, armTx_of_ready hr (Nat.zero_le _)]

/-- In a wait for endpoint 0's bank, the bank being free, the turn is the dispatcher's (41_dispatcher.md R101). -/
theorem blockStep_of_bankWait {s : State} (hr : s.txReady .e0 = true)
    (h : (∃ rest, s.ctl = .dataIn rest) ∨ s.ctl = .statusIn ∨ (∃ a, s.ctl = .statusInAddr a) ∨
      ∃ a, s.ctl = .addressWait a) : blockStep s = dispatcherStep s := by
  obtain ⟨hne, hd⟩ := dispatcherEnabled_of_bankWait h
  exact blockStep_of_dispatcher (frameEnabled_of_ctl_ne_idle hne) (hd.trans hr)

theorem blockStep_of_dataIn {s : State} {bs : List Byte} (hc : s.ctl = .dataIn bs) (hr : s.txReady .e0 = true)
    (hz : (s.ep .e0).size = ep0SizeOf s.params.ep0Size) (hl : bs.length ≤ (s.ep .e0).size.bytes) :
    blockStep s = .next ((s.appendTx .e0 [bs]).setCtl .idle) := by
  rw [blockStep_of_bankWait hr (.inl ⟨bs, hc⟩), dispatcherStep, hc]
  exact congrArg resultOf (chunkStep_of_fits hr hz hl)

theorem blockStep_of_statusIn {s : State} (hc : s.ctl = .statusIn) (hr : s.txReady .e0 = true) :
    blockStep s = .next ((s.appendTx .e0 [[]]).setCtl .idle) := by
  rw [blockStep_of_bankWait hr (.inr (.inl hc)), dispatcherStep, hc]
  exact congrArg resultOf (statusStep_of_ready hr)

theorem blockStep_of_statusInAddr {s : State} {a : U7} (hc : s.ctl = .statusInAddr a) (hr : s.txReady .e0 = true) :
    blockStep s = .next ((s.appendTx .e0 [[]]).setCtl (.addressWait a)) := by
  rw [blockStep_of_bankWait hr (.inr (.inr (.inl ⟨a, hc⟩))), dispatcherStep, hc]
  exact congrArg resultOf (statusAddrStep_of_ready a hr)

/-- The status packet of SET_ADDRESS taken, the address takes effect (42_standard_requests.md R118). -/
theorem blockStep_of_addressWait {s : State} {a : U7} (hc : s.ctl = .addressWait a) (hr : s.txReady .e0 = true) :
    blockStep s = .next ((s.setAddress a).setCtl .idle) := by
  rw [blockStep_of_bankWait hr (.inr (.inr (.inr ⟨a, hc⟩))), dispatcherStep, hc]
  rfl

theorem blockStep_of_arms {s : State} {c c' : Ctl} {bs : List Byte} (hc : s.ctl = c) (ha : c.Arms bs c')
    (hr : s.txReady .e0 = true) (hz : (s.ep .e0).size = ep0SizeOf s.params.ep0Size)
    (hl : bs.length ≤ (s.ep .e0).size.bytes) : blockStep s = .next ((s.appendTx .e0 [bs]).setCtl c') := by
  cases ha with
  | dataIn => exact blockStep_of_dataIn hc hr hz hl
  | statusIn => exact blockStep_of_statusIn hc hr
  | statusInAddr => exact blockStep_of_statusInAddr hc hr

/-! ### The packet armed and taken -/

/-- Endpoint 0 as a SETUP leaves it, its configuration the default one and the SETUP source enabled, and no frame event
waits (10_state.md R33, 45_endpoint_engine.md R157). -/
structure State.Fresh (s : State) : Prop where
  default : s.Ep0Default
  unhalted : (s.ep .e0).halt = false
  toggle : (s.ep .e0).toggle = .data1
  txq : (s.ep .e0).txq = []
  setupIe : s.setupIe = true
  noFrame : s.framePending = false

theorem State.Fresh.en {s : State} (h : s.Fresh) : (s.ep .e0).en = true := h.default.1

theorem State.Ready.idle {s : State} (h : s.Ready) : s.ctl = .idle := h.1

theorem State.Ready.en {s : State} (h : s.Ready) : (s.ep .e0).en = true := h.2.1.1

theorem State.Fresh.txReady {s : State} (h : s.Fresh) : s.txReady .e0 = true :=
  (txReady_iff _).mpr ⟨h.en, by rw [h.txq]; exact banksCount_pos _⟩

/-- The state after endpoint 0's packet `bs` was armed and taken, with the dispatcher at `c`. -/
def State.packetTaken (s : State) (bs : List Byte) (c : Ctl) : State :=
  ((s.setEp .e0 { s.ep .e0 with txq := [], toggle := (s.ep .e0).toggle.flip }).setCtl c).setAnswer
    (.data (s.ep .e0).toggle bs)

@[simp] theorem packetTaken_ep_appNum (s : State) (bs : List Byte) (c : Ctl) (a : AppEp) :
    (s.packetTaken bs c).ep (appNum a) = s.ep (appNum a) := by simp [State.packetTaken]

theorem State.Fresh.txReady_packetTaken {s : State} (h : s.Fresh) (bs : List Byte) (c : Ctl) :
    (s.packetTaken bs c).txReady .e0 = true :=
  (txReady_iff _).mpr (by simp [State.packetTaken, h.en, banksCount_pos])

@[simp] theorem packetTaken_address (s : State) (bs : List Byte) (c : Ctl) :
    (s.packetTaken bs c).address = s.address := by simp [State.packetTaken]

@[simp] theorem packetTaken_currentConfiguration (s : State) (bs : List Byte) (c : Ctl) :
    (s.packetTaken bs c).currentConfiguration = s.currentConfiguration := by simp [State.packetTaken]

/-- Once the packet is taken and the dispatcher idle, the next transfer may begin. -/
theorem State.Fresh.ready_packetTaken {s : State} (h : s.Fresh) (bs : List Byte) : (s.packetTaken bs .idle).Ready := by
  refine ⟨by simp [State.packetTaken], ?_, by simp [State.packetTaken, h.setupIe], ?_⟩
  · simpa [State.Ep0Default, State.packetTaken] using h.default
  · simpa [State.framePending, State.packetTaken] using h.noFrame

/-- The block's turn and the host's IN, the packet of a fresh endpoint 0. -/
theorem play_packet {s u : State} {bs : List Byte} {c : Ctl} {ms : List Move} {as : List Answer} (h : s.Fresh)
    (hc : s.ctl.Arms bs c) (hl : bs.length ≤ 8) (hp : play ms (s.packetTaken bs c) = some (as, u)) :
    play (.block :: .hostIn s.address 0 :: ms) s = some (.data .data1 bs :: as, u) := by
  obtain ⟨hen, -, -, hz, -⟩ := h.default
  have hblock : runMove .block s = .next ((s.appendTx .e0 [bs]).setCtl c) :=
    blockStep_of_arms rfl hc h.txReady hz (hl.trans (eight_le_bytes _))
  have hin : runMove (.hostIn s.address 0) ((s.appendTx .e0 [bs]).setCtl c) = .next (s.packetTaken bs c) :=
    (hostInEvent_of_accepted (s := (s.appendTx .e0 [bs]).setCtl c) (i := .e0) rfl hen).trans
      (congrArg Host.Outcome.next (takeIn_appendTx (s := s.setCtl c) bs h.unhalted h.txq))
  rw [← h.toggle]
  exact play_cons_of_next hblock (play_cons_of_next hin hp)

/-! ### A SETUP latched and decoded -/

/-- The SETUP `p` latched by an idle block and not yet decoded. -/
structure State.Latched (s : State) (p : SetupPacket) : Prop where
  idle : s.ctl = .idle
  fresh : s.Fresh
  pending : s.setupPending = true
  setupBuf : s.setupBuf = p

theorem State.Latched.blockStep_eq {s : State} {p : SetupPacket} (h : s.Latched p) :
    blockStep s = exec (decode p) (s.setSetupPending false) := by
  rw [blockStep_of_pendingSetup h.idle h.pending h.fresh.en h.fresh.setupIe h.fresh.noFrame, h.setupBuf]

/-- A restarted dispatcher's turn decodes the latched SETUP (41_dispatcher.md R101, R105). -/
theorem blockStep_of_setupReceived {s : State} (hc : s.ctl = .setupReceived) :
    blockStep s = exec (decode s.setupBuf) (s.setSetupPending false) :=
  (blockStep_of_dispatcher (frameEnabled_of_ctl_ne_idle (by simp [hc]))
    (dispatcherEnabled_of_setupReceived hc)).trans (dispatcherStep_of_decode (.inr hc))

/-- A decode step that leads on to a packet leaves endpoint 0 fresh: only a stall writes it (41_dispatcher.md R106). -/
theorem Effect.fresh {i : Instr} {s t : State} {bs : List Byte} {c : Ctl} (h : Effect s i t) (hs : s.Fresh)
    (hc : t.ctl.Arms bs c) : t.Fresh := by
  obtain ⟨hd, hh, hg, hq, hie, hf⟩ := hs
  have keep {u : State} (h0 : u.ep .e0 = s.ep .e0) (hp : u.params = s.params) (hi : u.setupIe = s.setupIe)
      (hr : u.framePending = s.framePending) : u.Fresh :=
    ⟨by rwa [State.Ep0Default, h0, hp], by rwa [h0], by rwa [h0], by rwa [h0], hi.trans hie, hr.trans hf⟩
  cases h with
  | ctlOnly | setIdle | setProtocol | setConfiguration => exact keep rfl rfl rfl rfl
  | setHalt a => exact keep (by simp [State.raiseStall]) rfl rfl rfl
  | clearHalt a => exact keep (by simp [State.clearStall, State.setToggle]) rfl rfl rfl
  | stall => cases hc

theorem exec_address {i : Instr} {s t : State} (h : exec i s = .next t) : t.address = s.address :=
  (congrArg State.address (exec_effect h).writes_only :)

theorem State.Latched.fresh_exec {s t : State} {p : SetupPacket} {bs : List Byte} {c : Ctl} (h : s.Latched p)
    (hx : exec (decode p) (s.setSetupPending false) = .next t) (hc : t.ctl.Arms bs c) : t.Fresh := by
  obtain ⟨hd, hh, hg, hq, hie, hf⟩ := h.fresh
  exact (exec_effect hx).fresh ⟨hd, hh, hg, hq, hie, hf⟩ hc

/-- A latched SETUP decoded, and its one packet armed and taken. -/
theorem State.Latched.play_decoded {s t u : State} {p : SetupPacket} {bs : List Byte} {c : Ctl} {ms : List Move}
    {as : List Answer} (h : s.Latched p) (hx : exec (decode p) (s.setSetupPending false) = .next t)
    (hc : t.ctl.Arms bs c) (hl : bs.length ≤ 8) (hp : play ms (t.packetTaken bs c) = some (as, u)) :
    play (.block :: .block :: .hostIn s.address 0 :: ms) s = some (.data .data1 bs :: as, u) := by
  have ha : t.address = s.address := exec_address (s := s.setSetupPending false) hx
  rw [← ha]
  exact play_cons_of_next (h.blockStep_eq.trans hx) (play_packet (h.fresh_exec hx hc) hc hl hp)

/-! ### A transfer of one packet -/

/-- The state a SETUP leaves of an idle block (45_endpoint_engine.md R157). -/
def State.afterSetup (s : State) (p : SetupPacket) : State :=
  (((s.setSetupBuf p).setEp .e0
    { s.ep .e0 with halt := false, toggle := .data1, txq := [], rxq := [] }).setSetupPending true).setAnswer .ack

section
variable (s : State) (p : SetupPacket)

@[simp] theorem afterSetup_address : (s.afterSetup p).address = s.address := by simp [State.afterSetup]
@[simp] theorem afterSetup_ctl : (s.afterSetup p).ctl = s.ctl := by simp [State.afterSetup]
@[simp] theorem afterSetup_resetPending : (s.afterSetup p).resetPending = s.resetPending := by simp [State.afterSetup]
@[simp] theorem afterSetup_setupPending : (s.afterSetup p).setupPending = true := by simp [State.afterSetup]
@[simp] theorem afterSetup_setupBuf : (s.afterSetup p).setupBuf = p := by simp [State.afterSetup]
@[simp] theorem afterSetup_ep_e0 : (s.afterSetup p).ep .e0 =
    { s.ep .e0 with halt := false, toggle := .data1, txq := [], rxq := [] } := by simp [State.afterSetup]
end

theorem runMove_hostSetup_of_idle {s : State} {addr : U7} (p : SetupPacket) (ha : addr = s.address)
    (hen : (s.ep .e0).en = true) (hc : s.ctl = .idle) :
    runMove (.hostSetup addr 0 p.bytes) s = .next (s.afterSetup p) := by
  rw [runMove, hostSetupEvent_of_accepted p ha hen, latchSetup_of_idle p hc]
  rfl

theorem State.Ready.latched {s : State} (h : s.Ready) (p : SetupPacket) : (s.afterSetup p).Latched p := by
  obtain ⟨hc, hd, hie, hf⟩ := h
  have hdefault : (s.afterSetup p).Ep0Default := by simpa [State.Ep0Default, State.afterSetup] using hd
  have hframe : (s.afterSetup p).framePending = false := by simpa [State.framePending, State.afterSetup] using hf
  have hsource : (s.afterSetup p).setupIe = true := by simpa [State.afterSetup] using hie
  exact ⟨by simp [hc], ⟨hdefault, by simp, by simp, by simp, hsource, hframe⟩, by simp, by simp⟩

/-- The state a request's decode step starts from, its SETUP taken between transfers. -/
def State.decoding (s : State) (p : SetupPacket) : State := (s.afterSetup p).setSetupPending false

@[simp] theorem decoding_address (s : State) (p : SetupPacket) : (s.decoding p).address = s.address := by
  simp [State.decoding]

@[simp] theorem decoding_currentConfiguration (s : State) (p : SetupPacket) :
    (s.decoding p).currentConfiguration = s.currentConfiguration := by simp [State.decoding, State.afterSetup]

@[simp] theorem decoding_ep_appNum (s : State) (p : SetupPacket) (a : AppEp) :
    (s.decoding p).ep (appNum a) = s.ep (appNum a) := by simp [State.decoding, State.afterSetup]

/-- A whole transfer of one packet, from the state between transfers on. -/
theorem State.Ready.play_transfer {s t u : State} {p : SetupPacket} {bs : List Byte} {c : Ctl} {ms : List Move}
    {as : List Answer} (h : s.Ready) (hx : exec (decode p) (s.decoding p) = .next t) (hc : t.ctl.Arms bs c)
    (hl : bs.length ≤ 8) (hp : play ms (t.packetTaken bs c) = some (as, u)) :
    play (.hostSetup s.address 0 p.bytes :: .block :: .block :: .hostIn s.address 0 :: ms) s =
      some (.ack :: .data .data1 bs :: as, u) :=
  play_cons_of_next (runMove_hostSetup_of_idle p rfl h.en h.idle) ((h.latched p).play_decoded hx hc hl hp)

/-- A transfer with the SETUP `p`, its one packet `bs` taken by the host, goes from `s`, between transfers, to `t`,
between transfers again. -/
structure State.TransferTo (s : State) (p : SetupPacket) (bs : List Byte) (t : State) : Prop where
  ready : t.Ready
  address : t.address = s.address
  plays : ∀ {addr : U7} {ms : List Move} {as : List Answer} {u : State}, addr = s.address → play ms t = some (as, u) →
    play (.hostSetup addr 0 p.bytes :: .block :: .block :: .hostIn addr 0 :: ms) s =
      some (.ack :: .data .data1 bs :: as, u)

/-- The configuration and the slots are, after a transfer, what its decode step made of them. -/
theorem State.Ready.exists_transferTo {s t : State} {p : SetupPacket} {bs : List Byte} (h : s.Ready)
    (hx : exec (decode p) (s.decoding p) = .next t) (hc : t.ctl.Arms bs .idle) (hl : bs.length ≤ 8) :
    ∃ u, s.TransferTo p bs u ∧ u.currentConfiguration = t.currentConfiguration ∧
      ∀ a, u.ep (appNum a) = t.ep (appNum a) :=
  ⟨t.packetTaken bs .idle,
    ⟨((h.latched p).fresh_exec hx hc).ready_packetTaken bs,
      by rw [packetTaken_address, exec_address hx, decoding_address],
      fun haddr hp => haddr ▸ h.play_transfer hx hc hl hp⟩,
    packetTaken_currentConfiguration t bs .idle, packetTaken_ep_appNum t bs .idle⟩

/-! ### The transfers of some standard requests (42_standard_requests.md) -/

section
variable {s : State} {p : SetupPacket} (h : s.Ready)
include h

/-- SET_CONFIGURATION (R120). -/
theorem State.Ready.transfer_setConfiguration {v : Byte} (hp : decode p = .setConfiguration v) :
    ∃ u, s.TransferTo p [] u ∧ u.currentConfiguration = v := by
  have hx := exec_setConfiguration v (s.decoding p)
  rw [← hp] at hx
  obtain ⟨u, hu, hv, -⟩ := h.exists_transferTo hx .statusIn (Nat.zero_le 8)
  exact ⟨u, hu, hv⟩

/-- GET_CONFIGURATION (R121). -/
theorem State.Ready.transfer_getConfiguration (hp : decode p = .getConfiguration) :
    ∃ u, s.TransferTo p [s.currentConfiguration] u := by
  have hx := exec_getConfiguration (s.decoding p)
  rw [← hp, decoding_currentConfiguration] at hx
  obtain ⟨u, hu, -⟩ := h.exists_transferTo hx (.dataIn _) (by simp)
  exact ⟨u, hu⟩

/-- GET_STATUS on a slot (R119). -/
theorem State.Ready.transfer_getStatus {a : AppEp} {e : U7} (hp : decode p = .getStatusEndpoint e)
    (he : e.toNat = (tokenOf a).toNat) :
    ∃ u, s.TransferTo p [if (s.ep (appNum a)).halt then 1 else 0, 0] u ∧ u.ep (appNum a) = s.ep (appNum a) := by
  have hx := exec_getStatusEndpoint e (s.decoding p)
  rw [← hp, haltReported_token _ he, decoding_ep_appNum] at hx
  obtain ⟨u, hu, -, ha⟩ := h.exists_transferTo hx (.dataIn _) (by simp)
  exact ⟨u, hu, by simp [ha]⟩

/-- SET_FEATURE(ENDPOINT_HALT) (R122). -/
theorem State.Ready.transfer_setHalt {a : AppEp} (hp : decode p = setHaltInstr a) :
    ∃ u, s.TransferTo p [] u ∧ u.ep (appNum a) = { s.ep (appNum a) with halt := true } := by
  have hx := exec_setHaltInstr a (s.decoding p)
  rw [← hp] at hx
  obtain ⟨u, hu, -, ha⟩ := h.exists_transferTo hx .statusIn (Nat.zero_le 8)
  exact ⟨u, hu, by simp [ha]⟩

/-- CLEAR_FEATURE(ENDPOINT_HALT) (R123). -/
theorem State.Ready.transfer_clearHalt {a : AppEp} (hp : decode p = clearHaltInstr a) :
    ∃ u, s.TransferTo p [] u ∧ u.ep (appNum a) = { s.ep (appNum a) with halt := false, toggle := .data0 } := by
  have hx := exec_clearHaltInstr a (s.decoding p)
  rw [← hp] at hx
  obtain ⟨u, hu, -, ha⟩ := h.exists_transferTo hx .statusIn (Nat.zero_le 8)
  exact ⟨u, hu, by simp [ha]⟩

end

/-! ### A SETUP between a bus reset and its handling -/

@[simp] theorem disableApp_address (s : State) : s.disableApp.address = s.address := rfl

@[simp] theorem resetWork_address (s : State) : s.resetWork.address = s.address := by simp [State.resetWork]

/-- A bus reset leaves an idle dispatcher idle, with `RESET_IN_WAIT` either way (45_endpoint_engine.md R168). -/
theorem busReset_of_idle {s : State} (hc : s.ctl = .idle) : s.busReset =
    ((((s.setAddress 0).disableApp).setSetupPending false).setResetPending true).setCtl .idle := by
  obtain ⟨c, h⟩ := resetInWait_cases s
  rw [busReset_eq h]
  obtain ⟨-, rfl⟩ | ⟨-, rfl⟩ := h
  · rfl
  · rw [hc]

/-- The bus-reset work restores endpoint 0 and keeps the SETUP latched (40_frame_and_reset.md R90,
60_exceptions.md R178). -/
theorem latched_resetWork {s : State} {p : SetupPacket} (hc : s.ctl = .idle) (hp : s.setupPending = true)
    (hb : s.setupBuf = p) (hg : (s.ep .e0).toggle = .data1) : (s.resetWork.setSofPending false).Latched p := by
  have h0 : (s.resetWork.setSofPending false).ep .e0 = (s.ep .e0).defaultEp0 s.params := by simp [State.resetWork]
  have hparams : (s.resetWork.setSofPending false).params = s.params := by simp [State.resetWork]
  refine ⟨by simp [State.resetWork, hc], ⟨?_, ?_, ?_, ?_, ?_, ?_⟩, by simp [State.resetWork, hp],
    by simp [State.resetWork, hb]⟩
  · rw [State.Ep0Default, h0, hparams]
    exact ⟨rfl, rfl, rfl, rfl, rfl⟩
  · rw [h0]; rfl
  · rw [h0]; exact hg
  · rw [h0]; rfl
  · simp [State.resetWork]
  · simp [State.resetWork, State.framePending]

/-- Of a bus reset and a SETUP that the block finds together it handles the reset first: the configuration is cleared
and the SETUP still latched (60_exceptions.md R178). -/
theorem exists_latched_after_reset {s : State} (p : SetupPacket) (hc : s.ctl = .idle) (hen : (s.ep .e0).en = true) :
    ∃ t, t.Latched p ∧ t.address = 0 ∧ t.currentConfiguration = 0 ∧
      ∀ {ms : List Move} {as : List Answer} {u : State}, play ms t = some (as, u) →
        play (.hostReset :: .hostSetup 0 0 p.bytes :: .block :: ms) s = some (.silent :: .ack :: as, u) := by
  obtain ⟨r, hr, hrc, hrp, hra, hr0⟩ : ∃ r, s.busReset = r ∧ r.ctl = .idle ∧ r.resetPending = true ∧ r.address = 0 ∧
      r.ep .e0 = s.ep .e0 := ⟨_, busReset_of_idle hc, by simp⟩
  have hreset : runMove .hostReset s = .next (r.setAnswer .silent) := by rw [← hr]; rfl
  have hsetup := runMove_hostSetup_of_idle (addr := 0) (s := r.setAnswer .silent) p (by simp [hra])
    (by simp [hr0, hen]) (by simp [hrc])
  have hwork := blockStep_of_reset (s := (r.setAnswer .silent).afterSetup p) (by simp [hrc]) (by simp [hrp])
  have hlatched := latched_resetWork (s := (r.setAnswer .silent).afterSetup p) (p := p) (by simp [hrc]) (by simp)
    (by simp) (by simp)
  exact ⟨_, hlatched, by simp [hra], rfl, fun hp =>
    play_cons_of_next hreset (play_cons_of_next hsetup (play_cons_of_next hwork hp))⟩

end Sys2Proof.Machine
end

section
/-! PROOFS. The standard requests (42_standard_requests.md): their decode steps, the packets they stall, and their
transfers. -/
namespace Sys2Proof.Proofs
open Machine

/-! ### Packets that are stalled -/

/-- Settles O7: `Lookup` finds nothing for such a selector, which is the cause DescriptorNotFound. -/
theorem unknownDescriptorStalls : Obligations.UnknownDescriptorStalls := by
  unfold Obligations.UnknownDescriptorStalls
  intro p s hrq hdev hcfg hrpt hhid
  have hnone : lookup p.val p.idx = none := by
    rw [Option.eq_none_iff_forall_ne_some]
    intro t ht
    obtain ⟨hi, ⟨hv, -⟩ | ⟨hv, -⟩ | ⟨hv, -⟩ | ⟨hv, -⟩⟩ := (lookup_eq_some_iff _ _ t).mp ht
    · exact hdev ⟨hv, hi⟩
    · exact hcfg ⟨hv, hi⟩
    · exact hrpt ⟨hv, hi⟩
    · exact hhid ⟨hv, hi⟩
  exact exec_of_stallCause s (stallCauseOf_of_lookup_none hrq hnone)

/-- Settles O8: an endpoint recipient names no slot, and any other recipient is no row's. -/
theorem badFeatureTargetStalls : Obligations.BadFeatureTargetStalls := by
  unfold Obligations.BadFeatureTargetStalls
  intro p s hrq
  refine ⟨fun hrt hbad => ?endpoint, fun hrt hother => ?otherRecipient⟩
  case endpoint =>
    have hnone : featureTarget p.rt p.rq p.val p.idx = none := by
      rw [Option.eq_none_iff_forall_ne_some]
      intro a ha
      obtain ⟨⟨-, -, hv⟩, he⟩ := (featureTarget_eq_some_iff _ _ _ _ a).mp ha
      have hin : 1 ≤ (endpointOperand p.idx).toNat ∧ (endpointOperand p.idx).toNat ≤ 4 := by
        rw [he]
        cases a <;> decide
      change p.val ≠ 0#16 ∨ (endpointOperand p.idx).toNat = 0 ∨ 4 < (endpointOperand p.idx).toNat at hbad
      rcases hbad with hbad | hbad | hbad
      · exact hbad hv
      · omega
      · omega
    exact exec_of_stallCause s (stallCauseOf_of_featureTarget_none hrq hrt hnone)
  case otherRecipient => exact exec_of_stallCause s (stallCauseOf_of_other_recipient hrq hrt hother)

/-! ### Decode steps -/

/-- Settles O14: the four requests are one read, of the table's base and length. -/
theorem descriptorRequestsReadTheRom : Obligations.DescriptorRequestsReadTheRom := by
  unfold Obligations.DescriptorRequestsReadTheRom
  intro len s i base dlen hi
  obtain ⟨t, rfl, rfl, rfl⟩ : ∃ t : DescTable, i = getDescriptorInstr len t ∧ base = t.base ∧
      dlen = t.dlen s.params := by
    rcases hi with h | h | h | h
    · exact ⟨.device, h⟩
    · exact ⟨.configuration, h⟩
    · exact ⟨.hid, h⟩
    · exact ⟨.report, h⟩
  rw [exec_getDescriptorInstr]
  refine ⟨fun hrom => ?loaded, fun k hk hnone => getDescriptor_of_missing hk hnone⟩
  case loaded =>
    exact getDescriptor_of_loaded t len fun a ha => hrom a (by rwa [Nat.add_comm])

/-- Settles O15: the decode step of SET_ADDRESS writes `ctl` only. -/
theorem setAddressStartsItsStatusStage : Obligations.SetAddressStartsItsStatusStage := by
  unfold Obligations.SetAddressStartsItsStatusStage
  intro a s
  rfl

/-- Settles O16: each slot is disabled and then configured by its entry of the table. -/
theorem setConfigurationRebuildsTheSlots : Obligations.SetConfigurationRebuildsTheSlots := by
  unfold Obligations.SetConfigurationRebuildsTheSlots
  intro v s
  refine ⟨_, exec_setConfiguration v s, rfl, rfl, fun a => ?_⟩
  have hslot : ((((s.setCurrentConfiguration v).disableApp).configureApp).setCtl .statusIn).ep (appNum a) =
      configureSlot s.params a (s.ep (appNum a)).disable := by simp
  rw [hslot]
  by_cases ha : a = s.params.kbdEp
  · rw [ha, configureSlot_kbd]
    exact ⟨rfl, rfl, rfl, rfl, fun _ => ⟨rfl, rfl, rfl, rfl, rfl⟩, fun hn => absurd rfl hn⟩
  · rw [configureSlot_of_ne ha]
    exact ⟨rfl, rfl, rfl, rfl, fun hk => absurd hk ha, fun _ => ⟨rfl, rfl, rfl, rfl, rfl⟩⟩

/-- Settles O17: each of the five requests captures its bytes and writes `ctl` only. -/
theorem onePacketRequestsCaptureTheirAnswer : Obligations.OnePacketRequestsCaptureTheirAnswer := by
  unfold Obligations.OnePacketRequestsCaptureTheirAnswer
  intro s
  exact ⟨rfl, rfl, rfl, rfl, rfl⟩

/-- Settles O18, by which endpoint the number is. -/
theorem endpointStatusReportsHalt : Obligations.EndpointStatusReportsHalt := by
  unfold Obligations.EndpointStatusReportsHalt
  intro e s
  refine ⟨_, exec_getStatusEndpoint e s, fun h => ?_, fun h => ?_, fun h => ?_, fun h => ?_, fun h => ?_, fun h => ?_⟩
  · rw [haltReported_zero s h]; rfl
  · rw [haltReported_token (a := .ep1) s h]; rfl
  · rw [haltReported_token (a := .ep2) s h]; rfl
  · rw [haltReported_token (a := .ep3) s h]; rfl
  · rw [haltReported_token (a := .ep4) s h]; rfl
  · rw [haltReported_above s h]; rfl

/-- Settles O19, slot by slot: the halt bit, and the toggle of a halt cleared, are all that is written. -/
theorem haltFeaturesWriteTheirSlot : Obligations.HaltFeaturesWriteTheirSlot := by
  unfold Obligations.HaltFeaturesWriteTheirSlot
  intro s
  exact ⟨exec_setHaltInstr .ep1 s, exec_setHaltInstr .ep2 s, exec_setHaltInstr .ep3 s, exec_setHaltInstr .ep4 s,
    exec_clearHaltInstr .ep1 s, exec_clearHaltInstr .ep2 s, exec_clearHaltInstr .ep3 s, exec_clearHaltInstr .ep4 s⟩

/-- Settles O24: endpoint 0's free bank ends either wait. -/
theorem addressIsWrittenAfterItsStatusPacket : Obligations.AddressIsWrittenAfterItsStatusPacket := by
  unfold Obligations.AddressIsWrittenAfterItsStatusPacket
  intro a s hm hen hfree
  have hr : s.popMove.txReady .e0 = true := (txReady_iff _).mpr ⟨hen, hfree⟩
  rw [step_of_nextMove hm]
  exact ⟨fun hc => blockStep_of_statusInAddr (s := s.popMove) hc hr,
    fun hc => blockStep_of_addressWait (s := s.popMove) hc hr⟩

/-- Settles O58: by the invariant a dispatcher about to decode has endpoint 0 not halted. -/
theorem endpointZeroStatusIsZero : Obligations.EndpointZeroStatusIsZero := by
  unfold Obligations.EndpointZeroStatusIsZero
  intro s hinv hm hf hd hc hdec
  have hactive : s.setupPending = true ∨ s.ctl ≠ .idle := by
    rcases hc with hc | hc
    · rw [dispatcherEnabled_of_idle hc, Bool.and_eq_true, Bool.and_eq_true] at hd
      obtain ⟨⟨hp, -⟩, -⟩ := hd
      exact .inl hp
    · exact .inr (by simp [hc])
  obtain ⟨-, hhalt⟩ := hinv.active hactive
  have hrep : haltReported 0 (s.popMove.setSetupPending false) = false :=
    (haltReported_zero _ rfl).trans hhalt
  rw [step_of_decode hm hf hd hc, hdec, exec_getStatusEndpoint, hrep]
  rfl

/-! ### Transfers -/

/-- Settles O52: the transfer leaves the dispatcher waiting to write the address, which its next turn does. -/
theorem setAddressTransfer : Obligations.SetAddressTransfer := by
  unfold Obligations.SetAddressTransfer
  intro s p a hs hp
  have hx : exec (decode p) (s.decoding p) = .next ((s.decoding p).setCtl (.statusInAddr a)) := by rw [hp]; rfl
  have hfresh : ((s.decoding p).setCtl (.statusInAddr a)).Fresh := (hs.latched p).fresh_exec hx (.statusInAddr a)
  have hlast := blockStep_of_addressWait (a := a) rfl (hfresh.txReady_packetTaken [] (.addressWait a))
  exact ⟨_, _, hs.play_transfer hx (.statusInAddr a) (Nat.zero_le 8) rfl, by simp, rfl,
    play_cons_of_next hlast rfl, rfl, rfl⟩

/-- The decode step of no request waits for an address: only the status packet of SET_ADDRESS leads there
(41_dispatcher.md R104). -/
theorem exec_ctl_ne_addressWait {i : Instr} {s t : State} (h : exec i s = .next t) (b : U7) :
    t.ctl ≠ .addressWait b := by
  have hc := exec_ctl h
  cases i with
  | getDescriptorDevice | getDescriptorConfiguration | getDescriptorHid | getDescriptorReport | getConfiguration
  | getStatusEndpoint | getStatus | hidGetReport | hidGetIdle | hidGetProtocol =>
    obtain ⟨bs, hbs⟩ := hc
    simp [hbs]
  | _ => simp [show t.ctl = _ from hc]

/-- Settles O53: the SETUP restarts the dispatcher, and no decode step writes the address or waits for one. -/
theorem abortedSetAddressLeavesTheAddress : Obligations.AbortedSetAddressLeavesTheAddress := by
  unfold Obligations.AbortedSetAddressLeavesTheAddress
  intro s p a hc hen hrom
  have hne : s.ctl ≠ .idle := by rcases hc with hc | hc <;> simp [hc]
  have hsetup : runMove (.hostSetup s.address 0 p.bytes) s = .next ((s.latchSetup p).setAnswer .ack) :=
    hostSetupEvent_of_accepted p rfl hen
  have hblock := blockStep_of_setupReceived (s := (s.latchSetup p).setAnswer .ack) (by simp [latchSetup_eq, hne])
  have hrom' : (((s.latchSetup p).setAnswer .ack).setSetupPending false).RomLoaded := by
    simpa [State.RomLoaded, latchSetup_eq] using hrom
  obtain ⟨t, ht⟩ := exec_ok_of_romLoaded (decode ((s.latchSetup p).setAnswer .ack).setupBuf) hrom'
  have h0 := (exec_effect ht).ep0
  refine ⟨t, play_cons_of_next hsetup (play_cons_of_next (hblock.trans ht) rfl), ?address,
    exec_ctl_ne_addressWait ht, ?txq⟩
  case address => simp [exec_address ht, latchSetup_eq]
  case txq =>
    change (t.ep .e0).txq = []
    rw [h0]
    simp [latchSetup_eq]

/-- Settles O54: the value is captured from the register that SET_CONFIGURATION wrote, or that the bus-reset work,
whose turn comes before the decode step, cleared. -/
theorem configurationReadsBack : Obligations.ConfigurationReadsBack := by
  unfold Obligations.ConfigurationReadsBack
  intro s p q v hs hp hq
  refine ⟨?readBack, ?afterReset⟩
  case readBack =>
    obtain ⟨t, ht, hv⟩ := hs.transfer_setConfiguration hp
    obtain ⟨u, hu⟩ := ht.ready.transfer_getConfiguration hq
    rw [hv] at hu
    exact ⟨u, ht.plays rfl (hu.plays ht.address.symm rfl)⟩
  case afterReset =>
    obtain ⟨t, ht, haddr, hzero, hplay⟩ := exists_latched_after_reset q hs.idle hs.en
    have hx := exec_getConfiguration (t.setSetupPending false)
    rw [← hq, State.setSetupPending_currentConfiguration, hzero] at hx
    have hread := ht.play_decoded (ms := []) hx (.dataIn _) (by simp) rfl
    rw [haddr] at hread
    exact ⟨_, hplay hread⟩

/-- Settles O56, transfer by transfer: the slot's halt bit is what SET_FEATURE and then CLEAR_FEATURE made it. -/
theorem haltShowsUntilCleared : Obligations.HaltShowsUntilCleared := by
  unfold Obligations.HaltShowsUntilCleared
  intro s a p q r e hs hen hq hset hclear hget he
  obtain ⟨t₁, ht₁, ha₁⟩ := hs.transfer_setHalt hset
  have hin₁ : runMove (.hostIn s.address (tokenOf a)) t₁ = .next (t₁.setAnswer .stall) :=
    hostInEvent_of_halt (epOfToken_tokenOf a) ht₁.address.symm (by simp [ha₁, hen]) (by simp [ha₁])
  have hr₁ : (t₁.setAnswer .stall).Ready := ht₁.ready
  obtain ⟨t, ht, ha⟩ := hr₁.transfer_getStatus hget he
  rw [State.setAnswer_ep, ha₁] at ht ha
  have haddr : t.address = s.address := ht.address.trans ht₁.address
  obtain ⟨t₂, ht₂, ha₂⟩ := ht.ready.transfer_clearHalt hclear
  have haddr₂ : s.address = t₂.address := (ht₂.address.trans haddr).symm
  have hin₂ : runMove (.hostIn s.address (tokenOf a)) t₂ = .next (t₂.setAnswer .nak) := by
    rw [haddr₂, ← takeIn_of_empty (i := appNum a) (by simp [ha₂]) (by simp [ha₂, ha, hq])]
    exact hostInEvent_of_accepted (epOfToken_tokenOf a) (by simp [ha₂, ha, hen])
  have hr₂ : (t₂.setAnswer .nak).Ready := ht₂.ready
  obtain ⟨u, hu, -⟩ := hr₂.transfer_getStatus hget he
  rw [State.setAnswer_ep, ha₂] at hu
  exact ⟨t, u, ht₁.plays rfl (play_cons_of_next hin₁ (ht.plays ht₁.address.symm rfl)),
    ht₂.plays haddr.symm (play_cons_of_next hin₂ (hu.plays haddr₂ rfl))⟩

end Sys2Proof.Proofs
end

section
/-! SUPPORT. The data stage: one chunk step, and the packets a host collects of the whole stage
(43_descriptor_engine.md R138 to R141, 45_endpoint_engine.md R163). -/
namespace Sys2Proof.Machine

/-! ### One chunk step -/

/-- Where a chunk step of at most `m` of the bytes `rest` leaves the dispatcher (43_descriptor_engine.md R138). -/
def Ctl.afterChunk (m : Nat) (rest : List Byte) : Ctl := if rest.length ≤ m then .idle else .dataIn (rest.drop m)

/-- With endpoint 0's bank free and a chunk that fits, the step arms it and keeps the bytes after it. -/
theorem chunkStep_of_ready {s : State} {rest : List Byte} {m : Nat} (hr : s.txReady .e0 = true)
    (hm : m = (ep0SizeOf s.params.ep0Size).bytes) (hl : min rest.length m ≤ (s.ep .e0).size.bytes) :
    chunkStep rest s = .ok ((s.appendTx .e0 [rest.take m]).setCtl (.afterChunk m rest)) := by
  have htake : rest.take (min rest.length m) = rest.take m := by rw [min_comm, ← List.take_eq_take_min]
  have hctl : (if (rest.drop (min rest.length m)).isEmpty then Ctl.idle else .dataIn (rest.drop (min rest.length m))) =
      .afterChunk m rest := by
    by_cases hle : rest.length ≤ m
    · simp [Ctl.afterChunk, hle]
    · simp [Ctl.afterChunk, hle, Nat.min_eq_right (Nat.le_of_not_le hle)]
  rw [chunkStep, ← hm, armTx_of_ready hr (by rw [List.length_take]; omega)]
  simp only [hctl, htake]

theorem blockStep_of_chunk {s : State} {rest : List Byte} {m : Nat} (hc : s.ctl = .dataIn rest)
    (hr : s.txReady .e0 = true) (hm : m = (ep0SizeOf s.params.ep0Size).bytes)
    (hl : min rest.length m ≤ (s.ep .e0).size.bytes) :
    blockStep s = .next ((s.appendTx .e0 [rest.take m]).setCtl (.afterChunk m rest)) := by
  rw [blockStep_of_bankWait hr (.inl ⟨rest, hc⟩), dispatcherStep, hc]
  exact congrArg resultOf (chunkStep_of_ready hr hm hl)

/-! ### The packets of a stage -/

/-- The `j`-th of the packets of at most `m` bytes that `rest` is cut into (43_descriptor_engine.md R141). -/
def dataPacket (m : Nat) (rest : List Byte) (j : Nat) : List Byte := (rest.drop (j * m)).take m

@[simp] theorem dataPacket_zero (m : Nat) (rest : List Byte) : dataPacket m rest 0 = rest.take m := by
  simp [dataPacket]

theorem dataPacket_drop (m : Nat) (rest : List Byte) (j : Nat) :
    dataPacket m (rest.drop m) j = dataPacket m rest (j + 1) := by
  rw [dataPacket, List.drop_drop, Nat.add_comm m, ← Nat.succ_mul, dataPacket]

theorem length_dataPacket (m : Nat) (rest : List Byte) (j : Nat) :
    (dataPacket m rest j).length = min m (rest.length - j * m) := by
  simp [dataPacket]

theorem flatten_dataPackets (m : Nat) (rest : List Byte) (n : Nat) :
    ((List.range n).map (dataPacket m rest)).flatten = rest.take (n * m) := by
  induction n with
  | zero => simp
  | succ n ih =>
    rw [List.range_succ, List.map_append, List.flatten_append, ih, Nat.succ_mul, List.take_add]
    simp [dataPacket]

/-- `max(1, ⌈L/m⌉)` packets hold `L` bytes, and one packet less does not, unless it would be none. -/
theorem packetCount_bounds {m len n : Nat} (hm : 0 < m) (hn : n = max 1 ((len + m - 1) / m)) :
    ∃ k, n = k + 1 ∧ len ≤ (k + 1) * m ∧ (0 < k → k * m < len) := by
  have hlow := Nat.div_mul_le_self (len + m - 1) m
  have hhigh := Nat.lt_mul_div_succ (len + m - 1) hm
  rw [Nat.mul_comm m] at hhigh
  generalize (len + m - 1) / m = q at hn hlow hhigh
  cases q with
  | zero => exact ⟨0, hn, by omega, by omega⟩
  | succ k =>
    rw [Nat.succ_mul] at hlow hhigh
    exact ⟨k, by omega, by omega, by omega⟩

/-! ### The stage played -/

/-- Endpoint 0 in its default configuration, not halted, with nothing armed: it takes and sends the next packet. -/
structure State.Sending (s : State) : Prop where
  default : s.Ep0Default
  unhalted : (s.ep .e0).halt = false
  txq : (s.ep .e0).txq = []

@[simp] theorem packetTaken_ep_e0_size (s : State) (bs : List Byte) (c : Ctl) :
    ((s.packetTaken bs c).ep .e0).size = (s.ep .e0).size := rfl

theorem State.Sending.packetTaken {s : State} (h : s.Sending) (bs : List Byte) (c : Ctl) :
    (s.packetTaken bs c).Sending :=
  ⟨h.default, h.unhalted, rfl⟩

/-- The packet just armed is what the host's IN takes, wherever the dispatcher is. -/
theorem State.Sending.runMove_hostIn {s : State} (h : s.Sending) (bs : List Byte) (c : Ctl) :
    runMove (.hostIn s.address 0) ((s.appendTx .e0 [bs]).setCtl c) = .next (s.packetTaken bs c) := by
  obtain ⟨hen, -⟩ := h.default
  exact (hostInEvent_of_accepted (s := (s.appendTx .e0 [bs]).setCtl c) (i := .e0) rfl hen).trans
    (congrArg Host.Outcome.next (takeIn_appendTx (s := s.setCtl c) bs h.unhalted h.txq))

/-- What the host gets for the `j`-th packet of a data stage (43_descriptor_engine.md R141,
45_endpoint_engine.md R166). -/
def State.dataAnswer (s : State) (rest : List Byte) (j : Nat) : Answer :=
  .data ((s.ep .e0).toggle.after j) (dataPacket (s.ep .e0).size.bytes rest j)

/-- After the first packet, the packets to come are those that came after it. -/
theorem dataAnswer_packetTaken (s : State) (rest bs : List Byte) (c : Ctl) :
    (s.packetTaken bs c).dataAnswer (rest.drop (s.ep .e0).size.bytes) = s.dataAnswer rest ∘ Nat.succ := by
  funext j
  change Answer.data ((s.ep .e0).toggle.flip.after j) (dataPacket (s.ep .e0).size.bytes _ j) = _
  rw [after_flip_succ, dataPacket_drop]
  rfl

/-- The block's turn and the host's IN, one packet of the stage. -/
theorem State.Sending.play_chunk {s u : State} {rest : List Byte} {ms : List Move} {as : List Answer} (h : s.Sending)
    (hc : s.ctl = .dataIn rest)
    (hp : play ms (s.packetTaken (rest.take (s.ep .e0).size.bytes) (.afterChunk (s.ep .e0).size.bytes rest)) =
      some (as, u)) :
    play (.block :: .hostIn s.address 0 :: ms) s = some (s.dataAnswer rest 0 :: as, u) := by
  obtain ⟨hen, -, -, hz, -⟩ := h.default
  have hr : s.txReady .e0 = true := (txReady_iff _).mpr ⟨hen, by rw [h.txq]; exact banksCount_pos _⟩
  rw [State.dataAnswer, dataPacket_zero]
  have hblock := blockStep_of_chunk hc hr (congrArg EpSize.bytes hz) (Nat.min_le_right _ _)
  exact play_cons_of_next hblock (play_cons_of_next (h.runMove_hostIn _ _) hp)

/-- A stage of `n + 1` packets: all its answers, and the dispatcher idle at its end. -/
theorem State.Sending.play_dataStage {s : State} (h : s.Sending) {rest : List Byte} (hc : s.ctl = .dataIn rest)
    {n : Nat} (hfit : rest.length ≤ (n + 1) * (s.ep .e0).size.bytes)
    (hneed : 0 < n → n * (s.ep .e0).size.bytes < rest.length) :
    ∃ t, play (rounds (n + 1) [.block, .hostIn s.address 0]) s =
        some ((List.range (n + 1)).map (s.dataAnswer rest), t) ∧ t.ctl = .idle ∧ (t.ep .e0).txq = [] := by
  induction n generalizing s rest with
  | zero =>
    have hidle : Ctl.afterChunk (s.ep .e0).size.bytes rest = .idle := if_pos (by simpa using hfit)
    exact ⟨_, h.play_chunk hc rfl, hidle, rfl⟩
  | succ n ih =>
    have hlt := hneed n.succ_pos
    rw [Nat.succ_mul] at hfit hlt
    have hlen := List.length_drop (i := (s.ep .e0).size.bytes) (l := rest)
    have hmore : Ctl.afterChunk (s.ep .e0).size.bytes rest = .dataIn (rest.drop (s.ep .e0).size.bytes) :=
      if_neg (by omega)
    obtain ⟨t, hplay, hend⟩ := ih (h.packetTaken (rest.take (s.ep .e0).size.bytes) _) hmore
      (by rw [packetTaken_ep_e0_size]; omega) (fun _ => by rw [packetTaken_ep_e0_size]; omega)
    rw [dataAnswer_packetTaken, packetTaken_address] at hplay
    rw [rounds_succ, List.range_succ_eq_map, List.map_cons, List.map_map]
    exact ⟨t, h.play_chunk hc hplay, hend⟩

end Sys2Proof.Machine
end

section
/-! PROOFS. The descriptor engine's data stage (43_descriptor_engine.md). -/
namespace Sys2Proof.Proofs
open Machine

/-- Settles O25: endpoint 0's free bank ends the wait, and the chunk is the first `M` bytes. -/
theorem chunkStepArmsAtMostOnePacket : Obligations.ChunkStepArmsAtMostOnePacket := by
  unfold Obligations.ChunkStepArmsAtMostOnePacket
  intro rest s m hmove hc hen hfree hm hl
  have hr : s.popMove.txReady .e0 = true := (txReady_iff _).mpr ⟨hen, hfree⟩
  have hm' : m = (ep0SizeOf s.params.ep0Size).bytes := by
    rw [hm]
    cases s.params.ep0Size <;> rfl
  rw [step_of_nextMove hmove]
  exact blockStep_of_chunk (s := s.popMove) hc hr hm' hl

/-- Settles O27, by induction on the packets: each round sends the first `M` of the bytes left. -/
theorem dataStageSendsItsBytesInPackets : Obligations.DataStageSendsItsBytesInPackets := by
  unfold Obligations.DataStageSendsItsBytesInPackets
  rintro s rest m n hc hd hh hq rfl hn
  obtain ⟨k, rfl, hfit, hneed⟩ := packetCount_bounds (Nat.zero_lt_of_lt (eight_le_bytes _)) hn
  obtain ⟨t, hplay, hidle, hempty⟩ := (⟨hd, hh, hq⟩ : s.Sending).play_dataStage hc hfit hneed
  refine ⟨_, t, (List.range (k + 1)).map (dataPacket s.eps.ep0.size.bytes rest), hplay, hidle, hempty, by simp,
    ?flatten, fun j xs hj => ?packet, by simp⟩
  case flatten => rw [flatten_dataPackets, List.take_of_length_le hfit]
  case packet =>
    obtain ⟨hlt, rfl⟩ : j < k + 1 ∧ dataPacket s.eps.ep0.size.bytes rest j = xs := by
      simpa [List.getElem?_eq_some_iff] using hj
    rw [length_dataPacket]
    refine ⟨rfl, fun hmore => ?full, Nat.min_le_left _ _, ?answer⟩
    case full =>
      have hle := Nat.mul_le_mul_right s.eps.ep0.size.bytes (Nat.le_of_lt_succ hmore)
      have := hneed (by omega)
      rw [Nat.succ_mul] at hle
      omega
    case answer =>
      rw [List.getElem?_map, List.getElem?_range hlt]
      rfl

end Sys2Proof.Proofs
end

section
/-! SUPPORT. What the HID requests answer and write in their decode step (44_hid_requests.md R147 to R153), the data
stage of SET_REPORT, and a bus reset from its event to its handling. -/
namespace Sys2Proof.Machine

/-! ### The decode steps (44_hid_requests.md R147, R149, R151 to R153) -/

theorem exec_hidGetIdle (s : State) : exec .hidGetIdle s = .next (s.setCtl (.dataIn [s.idleConfig])) := rfl

theorem exec_hidGetProtocol (s : State) : exec .hidGetProtocol s = .next (s.setCtl (.dataIn [s.protocol])) := rfl

theorem exec_hidSetIdle (r : Byte) (s : State) :
    exec (.hidSetIdle r) s = .next (((s.setIdleConfig r).setIdleCount 0).setCtl .statusIn) := rfl

theorem exec_hidSetProtocol (p : Byte) (s : State) :
    exec (.hidSetProtocol p) s = .next ((s.setProtocol p).setCtl .statusIn) := rfl

theorem exec_hidSetReport (s : State) : exec .hidSetReport s = .next (s.setCtl .dataOut) := rfl

/-! ### The data stage of SET_REPORT (44_hid_requests.md R151) -/

/-- The packet's first byte goes to `leds` and the rest of the packet is dropped (45_endpoint_engine.md R161, R162). -/
theorem reportByteStep_of_cons {s : State} {b : Byte} {bs : List Byte} {rest : List (List Byte)}
    (h : (s.ep .e0).rxq = (b :: bs) :: rest) :
    reportByteStep s = ((s.setLeds b).setEp .e0 { s.ep .e0 with rxq := rest }).setCtl .statusIn := by
  rw [reportByteStep, rxRead_cons h]
  rfl

/-- An empty packet gives a free byte (45_endpoint_engine.md R161, log entry 4). -/
theorem reportByteStep_of_nil {s : State} {rest : List (List Byte)} (h : (s.ep .e0).rxq = [] :: rest) :
    reportByteStep s = (((s.setDraws (s.draws + 1)).setLeds (Config.freeByte s.draws)).setEp .e0
      { s.ep .e0 with rxq := rest }).setCtl .statusIn := by
  have htail : rest = (s.ep .e0).rxq.tail := by rw [h]; rfl
  rw [reportByteStep, rxRead_nil h, htail]
  rfl

/-- A held packet ends the wait for the data stage (41_dispatcher.md R101). -/
theorem blockStep_of_dataOut {s : State} {xs : List Byte} {rest : List (List Byte)} (hc : s.ctl = .dataOut)
    (hen : (s.ep .e0).en = true) (hq : (s.ep .e0).rxq = xs :: rest) : blockStep s = .next (reportByteStep s) := by
  have hr : s.rxReady .e0 = true := (rxReady_iff _).mpr ⟨hen, by simp [hq]⟩
  rw [blockStep_of_dispatcher (frameEnabled_of_ctl_ne_idle (by simp [hc])) ((dispatcherEnabled_of_dataOut hc).trans hr),
    dispatcherStep, hc]

/-- An OUT with a bank free is held and acknowledged (45_endpoint_engine.md R164). -/
theorem takeOut_of_free {s : State} {i : EpNum} (xs : List Byte) (hdir : (s.ep i).dir = .both)
    (hh : (s.ep i).halt = false) (hfree : (s.ep i).rxq.length < banksCount (s.ep i).banks) :
    s.takeOut i xs = (s.setEp i { s.ep i with rxq := (s.ep i).rxq ++ [xs] }).setAnswer .ack := by
  rw [State.takeOut, if_neg (by simp [hdir]), if_neg (by simp [hh]), if_neg hfree.ne]

theorem hostOutEvent_of_accepted {s : State} {e : BitVec 4} {i : EpNum} {xs : List Byte} (hi : epOfToken e = some i)
    (hen : (s.ep i).en = true) (hl : xs.length ≤ (s.ep i).size.bytes) :
    hostOutEvent s.address e xs s = .next (s.takeOut i xs) := by
  rw [hostOutEvent, (accepts_eq_some_iff s s.address e i).mpr ⟨hi, rfl, hen⟩]
  exact if_neg hl.not_gt

/-- Endpoint 0 is as fresh in a state that keeps it. -/
theorem State.Fresh.of_kept {s t : State} (h : s.Fresh) (h0 : t.ep .e0 = s.ep .e0) (hp : t.params = s.params)
    (hi : t.setupIe = s.setupIe) (hr : t.framePending = s.framePending) : t.Fresh := by
  obtain ⟨hd, hh, hg, hq, hie, hf⟩ := h
  exact ⟨by rwa [State.Ep0Default, h0, hp], by rwa [h0], by rwa [h0], by rwa [h0], hi.trans hie, hr.trans hf⟩

/-- The state after endpoint 0, its bank free, held the host's packet `xs` and acknowledged it
(45_endpoint_engine.md R164). -/
def State.outHeld (s : State) (xs : List Byte) : State :=
  (s.setEp .e0 { s.ep .e0 with rxq := [xs] }).setAnswer .ack

@[simp] theorem outHeld_ctl (s : State) (xs : List Byte) : (s.outHeld xs).ctl = s.ctl := rfl

@[simp] theorem outHeld_address (s : State) (xs : List Byte) : (s.outHeld xs).address = s.address := rfl

@[simp] theorem outHeld_ep_e0 (s : State) (xs : List Byte) :
    (s.outHeld xs).ep .e0 = { s.ep .e0 with rxq := [xs] } := rfl

theorem State.Fresh.runMove_hostOut {s : State} {xs : List Byte} (h : s.Fresh) (hq : (s.ep .e0).rxq = [])
    (hl : xs.length ≤ (s.ep .e0).size.bytes) : runMove (.hostOut s.address 0 xs) s = .next (s.outHeld xs) := by
  obtain ⟨hen, -, hdir, -, -⟩ := h.default
  rw [runMove, hostOutEvent_of_accepted (i := .e0) rfl hen hl,
    takeOut_of_free _ hdir h.unhalted (by rw [hq]; exact banksCount_pos _), hq]
  rfl

/-- The state after SET_REPORT's byte `b`, of the one packet held, was stored (44_hid_requests.md R151). -/
def State.reportStored (s : State) (b : Byte) : State :=
  ((s.setLeds b).setEp .e0 { s.ep .e0 with rxq := [] }).setCtl .statusIn

@[simp] theorem reportStored_address (s : State) (b : Byte) : (s.reportStored b).address = s.address := rfl

@[simp] theorem reportStored_ep_e0 (s : State) (b : Byte) :
    (s.reportStored b).ep .e0 = { s.ep .e0 with rxq := [] } := rfl

theorem blockStep_outHeld {s : State} (b : Byte) (bs : List Byte) (hc : s.ctl = .dataOut)
    (hen : (s.ep .e0).en = true) : blockStep (s.outHeld (b :: bs)) = .next ((s.outHeld (b :: bs)).reportStored b) :=
  (blockStep_of_dataOut (by simp [hc]) (by simp [hen]) rfl).trans
    (congrArg Host.Outcome.next (reportByteStep_of_cons rfl))

/-- The data stage and the status stage of SET_REPORT, the host's packet not empty. -/
theorem State.Fresh.play_reportData {s : State} {b : Byte} {bs : List Byte} (h : s.Fresh) (hc : s.ctl = .dataOut)
    (hq : (s.ep .e0).rxq = []) (hl : (b :: bs).length ≤ (s.ep .e0).size.bytes) :
    ∃ t, t.ctl = .idle ∧ t.leds = b ∧ ∀ {ms : List Move} {as : List Answer} {u : State}, play ms t = some (as, u) →
      play (.hostOut s.address 0 (b :: bs) :: .block :: .block :: .hostIn s.address 0 :: ms) s =
        some (.ack :: .data .data1 [] :: as, u) := by
  have hreport : runMove .block (s.outHeld (b :: bs)) = _ := blockStep_outHeld b bs hc h.en
  have hfresh : ((s.outHeld (b :: bs)).reportStored b).Fresh := by
    refine h.of_kept (by simp [← hq]) ?_ ?_ ?_ <;> simp [State.framePending, State.reportStored, State.outHeld]
  have haddr : ((s.outHeld (b :: bs)).reportStored b).address = s.address := by simp
  exact ⟨_, rfl, by simp [State.packetTaken, State.reportStored], fun hp =>
    play_cons_of_next (h.runMove_hostOut hq hl) (play_cons_of_next hreport
      (haddr ▸ play_packet hfresh .statusIn (Nat.zero_le 8) hp))⟩

/-! ### A bus reset, its event and its handling -/

/-- The HID registers of `t` are those of `s` (10_state.md R24, R26, R27). -/
structure State.HidKept (s t : State) : Prop where
  idleConfig : t.idleConfig = s.idleConfig
  protocol : t.protocol = s.protocol
  leds : t.leds = s.leds

theorem State.HidKept.trans {s t u : State} (h : s.HidKept t) (h' : t.HidKept u) : s.HidKept u :=
  ⟨h'.idleConfig.trans h.idleConfig, h'.protocol.trans h.protocol, h'.leds.trans h.leds⟩

theorem hidKept_busReset (s : State) : s.HidKept s.busReset := by
  obtain ⟨c, hc⟩ := resetInWait_cases s
  rw [busReset_eq hc]
  constructor <;> simp [State.disableApp]

theorem hidKept_resetWork (s : State) : s.HidKept s.resetWork := by
  constructor <;> simp [State.resetWork]

theorem hidKept_decoding (s : State) (p : SetupPacket) : s.HidKept (s.decoding p) := by
  constructor <;> simp [State.decoding, State.afterSetup]

/-- A bus reset, handled by the block's next turn, goes from `s` to `t`, between transfers at address 0 with the HID
registers kept (40_frame_and_reset.md R90, 45_endpoint_engine.md R168). -/
structure State.ResetTo (s t : State) : Prop where
  ready : t.Ready
  address : t.address = 0
  hid : s.HidKept t
  plays : ∀ {ms : List Move} {as : List Answer} {u : State}, play ms t = some (as, u) →
    play (.hostReset :: .block :: ms) s = some (.silent :: as, u)

/-- The bus-reset work leaves an idle dispatcher between transfers, whatever endpoint 0 was
(40_frame_and_reset.md R90). -/
theorem ready_resetWork {s : State} (hc : s.ctl = .idle) : (s.resetWork.setSofPending false).Ready := by
  have h0 : (s.resetWork.setSofPending false).ep .e0 = (s.ep .e0).defaultEp0 s.params := by simp [State.resetWork]
  refine ⟨by simp [State.resetWork, hc], ?_, by simp [State.resetWork], by simp [State.resetWork, State.framePending]⟩
  rw [State.Ep0Default, h0]
  exact ⟨rfl, rfl, rfl, rfl, rfl⟩

theorem exists_resetTo {s : State} (hc : s.ctl = .idle) : ∃ t, s.ResetTo t := by
  obtain ⟨r, hr, hrc, hrp, hra⟩ : ∃ r, s.busReset = r ∧ r.ctl = .idle ∧ r.resetPending = true ∧ r.address = 0 :=
    ⟨_, busReset_of_idle hc, by simp⟩
  have hkept : s.HidKept r := hr ▸ hidKept_busReset s
  obtain ⟨hidle, hprotocol, hleds⟩ := hkept.trans (hidKept_resetWork r)
  have hreset : runMove .hostReset s = .next (r.setAnswer .silent) := by rw [← hr]; rfl
  have hwork : runMove .block (r.setAnswer .silent) = .next ((r.setAnswer .silent).resetWork.setSofPending false) :=
    blockStep_of_reset (s := r.setAnswer .silent) hrc hrp
  exact ⟨_, ready_resetWork (s := r.setAnswer .silent) hrc, by simp [hra], ⟨hidle, hprotocol, hleds⟩, fun hp =>
    play_cons_of_next hreset (play_cons_of_next hwork hp)⟩

/-! ### What is written before a bus reset and read after it (44_hid_requests.md R154) -/

section
variable {s t u : State} {p q : SetupPacket} {b : Byte} (h : s.Ready)
include h

/-- A request without a data stage, from its SETUP to the arming of its status packet (41_dispatcher.md R107). -/
theorem State.Ready.play_statusArmed {ms : List Move} {as : List Answer}
    (hx : exec (decode p) (s.decoding p) = .next t) (hc : t.ctl = .statusIn)
    (hp : play ms ((t.appendTx .e0 [[]]).setCtl .idle) = some (as, u)) :
    play (.hostSetup s.address 0 p.bytes :: .block :: .block :: ms) s = some (.ack :: as, u) := by
  have hlatched := h.latched p
  have hfresh : t.Fresh := hlatched.fresh_exec (bs := []) (c := .idle) hx (hc ▸ .statusIn)
  have hdecode : runMove .block (s.afterSetup p) = .next t := hlatched.blockStep_eq.trans hx
  have hstatus : runMove .block t = .next ((t.appendTx .e0 [[]]).setCtl .idle) :=
    blockStep_of_statusIn hc hfresh.txReady
  exact play_cons_of_next (runMove_hostSetup_of_idle p rfl h.en h.idle)
    (play_cons_of_next hdecode (play_cons_of_next hstatus hp))

/-- A HID register written by `p`, and read by `q` after a bus reset. -/
theorem State.Ready.play_readBack (hset : exec (decode p) (s.decoding p) = .next t) (hc : t.ctl = .statusIn)
    (hget : ∀ r, t.HidKept r → exec (decode q) r = .next (r.setCtl (.dataIn [b]))) :
    ∃ v, play [.hostSetup s.address 0 p.bytes, .block, .block, .hostReset, .block,
      .hostSetup 0 0 q.bytes, .block, .block, .hostIn 0 0] s = some ([.ack, .silent, .ack, .data .data1 [b]], v) := by
  obtain ⟨r, hr⟩ := exists_resetTo (s := (t.appendTx .e0 [[]]).setCtl .idle) rfl
  obtain ⟨hidle, hprotocol, hleds⟩ := hr.hid.trans (hidKept_decoding r q)
  have hkept : t.HidKept (r.decoding q) := ⟨by simpa using hidle, by simpa using hprotocol, by simpa using hleds⟩
  obtain ⟨v, hv, -⟩ := hr.ready.exists_transferTo (hget _ hkept) (.dataIn _) (by simp)
  exact ⟨v, h.play_statusArmed hset hc (hr.plays (hv.plays hr.address.symm rfl))⟩

/-- A whole SET_REPORT transfer, its first byte stored in `leds` (44_hid_requests.md R151). -/
theorem State.Ready.play_setReport {bs : List Byte} (hp : decode p = .hidSetReport)
    (hl : (b :: bs).length ≤ (s.ep .e0).size.bytes) :
    ∃ t, t.ctl = .idle ∧ t.leds = b ∧ ∀ {ms : List Move} {as : List Answer} {u : State}, play ms t = some (as, u) →
      play (.hostSetup s.address 0 p.bytes :: .block :: .hostOut s.address 0 (b :: bs) :: .block :: .block ::
        .hostIn s.address 0 :: ms) s = some (.ack :: .ack :: .data .data1 [] :: as, u) := by
  have hlatched := h.latched p
  have hfresh : ((s.decoding p).setCtl .dataOut).Fresh :=
    hlatched.fresh.of_kept (by simp [State.decoding]) rfl rfl (by simp [State.decoding, State.framePending])
  have hdecode : runMove .block (s.afterSetup p) = .next ((s.decoding p).setCtl .dataOut) := by
    rw [runMove, hlatched.blockStep_eq, hp]
    rfl
  obtain ⟨t, hc, hleds, hdata⟩ := hfresh.play_reportData rfl (by simp [State.decoding])
    (by simpa [State.decoding] using hl)
  rw [State.setCtl_address, decoding_address] at hdata
  exact ⟨t, hc, hleds, fun hplay => play_cons_of_next (runMove_hostSetup_of_idle p rfl h.en h.idle)
    (play_cons_of_next hdecode (hdata hplay))⟩

end

end Sys2Proof.Machine
end

section
/-! PROOFS. The HID requests (44_hid_requests.md): `protocol`, the data stage of SET_REPORT, and the registers read back
across a bus reset. -/
namespace Sys2Proof.Proofs
open Machine

/-- Settles O20: the three decode steps are these updates. -/
theorem hidSetRequestsWriteTheirRegister : Obligations.HidSetRequestsWriteTheirRegister := by
  unfold Obligations.HidSetRequestsWriteTheirRegister
  intro b s
  exact ⟨exec_hidSetIdle b s, exec_hidSetProtocol b s, exec_hidSetReport s⟩

/-- Settles O26, by whether the held packet has a first byte. -/
theorem setReportStoresTheFirstByte : Obligations.SetReportStoresTheFirstByte := by
  unfold Obligations.SetReportStoresTheFirstByte
  intro s xs rest hm hc hen hq
  have hstep : step s = .next (reportByteStep s.popMove) :=
    (step_of_nextMove hm).trans (blockStep_of_dataOut (s := s.popMove) hc hen hq)
  refine ⟨fun b bs hxs => ?cons, fun hxs => ?nil⟩
  case cons =>
    rw [hstep, reportByteStep_of_cons (s := s.popMove) (hq.trans (congrArg (· :: rest) hxs))]
    rfl
  case nil =>
    rw [hstep, reportByteStep_of_nil (s := s.popMove) (hq.trans (congrArg (· :: rest) hxs))]
    rfl

/-- Settles O50: such a step commutes with any change of `protocol`, so it keeps the value `s` has. -/
theorem protocolHasNoEffect : Obligations.ProtocolHasNoEffect := by
  unfold Obligations.ProtocolHasNoEffect
  intro s t x h hdec
  have hany (y : Byte) : step { s with protocol := y } = .next { t with protocol := y } := by
    have hmove := runMove_mapUnread id (fun _ => y) s.popMove s.nextMove fun hm hf hd hc =>
      exec_mapUnread id (fun _ => y) (s.popMove.setSetupPending false) (.inl rfl) (.inr (hdec hm hf hd hc))
    exact hmove.trans (congrArg (resultMapUnread id fun _ => y) h)
  have hsame : Host.Outcome.next t = .next { t with protocol := s.protocol } := h.symm.trans (hany s.protocol)
  injection hsame with ht
  exact ⟨by rw [ht], hany x⟩

/-- Settles O55: a bus reset keeps the three registers, and a GET or the application then reads what the SET wrote. -/
theorem hidRegistersReadBack : Obligations.HidRegistersReadBack := by
  unfold Obligations.HidRegistersReadBack
  intro s p q b bs hs
  refine ⟨fun hp hq => ?idle, fun hp hq => ?protocol, fun hp hl => ?report⟩
  case idle =>
    have hset := exec_hidSetIdle b (s.decoding p)
    rw [← hp] at hset
    refine hs.play_readBack hset rfl fun r hr => ?_
    rw [hq, exec_hidGetIdle, hr.idleConfig]
    rfl
  case protocol =>
    have hset := exec_hidSetProtocol b (s.decoding p)
    rw [← hp] at hset
    refine hs.play_readBack hset rfl fun r hr => ?_
    rw [hq, exec_hidGetProtocol, hr.protocol]
    rfl
  case report =>
    obtain ⟨t, hc, hleds, hplay⟩ := hs.play_setReport hp hl
    obtain ⟨r, hr⟩ := exists_resetTo hc
    have hread : runMove .appReadLeds r = .next (r.setAnswer (.leds b)) := by rw [← hleds, ← hr.hid.leds]; rfl
    exact ⟨_, hplay (hr.plays (play_cons_of_next hread rfl))⟩

end Sys2Proof.Proofs
end

section
/-! SUPPORT. The endpoint engine's bus events, case by case (45_endpoint_engine.md R156, R157, R163, R164, R168): which
endpoint a token names, the tokens that are not accepted, and each answer to an accepted one. -/
namespace Sys2Proof.Machine

/-! ### Tokens (R156) -/

/-- Sixteen token numbers, of which each endpoint has one. -/
theorem epOfToken_eq_some_iff (e : BitVec 4) (i : EpNum) : epOfToken e = some i ↔
    (e.toNat = 0 ∧ i = .e0) ∨ (e.toNat = 1 ∧ i = .e1) ∨ (e.toNat = 2 ∧ i = .e2) ∨ (e.toNat = 3 ∧ i = .e3) ∨
      (e.toNat = 4 ∧ i = .e4) := by
  cases i <;> revert e <;> decide

/-- A token that no endpoint accepts gets no answer, whatever its transaction. -/
theorem runMove_of_unaccepted {s : State} {m : Move} {addr : U7} {e : BitVec 4} {bs : List Byte}
    (h : s.accepts addr e = none) (hm : m = .hostSetup addr e bs ∨ m = .hostIn addr e ∨ m = .hostOut addr e bs) :
    runMove m s = .next (s.setAnswer .silent) := by
  rcases hm with rfl | rfl | rfl
  · rw [runMove, hostSetupEvent, h]
  · rw [runMove, hostInEvent, h]
  · rw [runMove, hostOutEvent, h]

/-! ### SETUP (R157) -/

/-- A SETUP of any length is ignored by every endpoint but 0 (D43, log entry 20). -/
theorem hostSetupEvent_of_other {s : State} {addr : U7} {e : BitVec 4} (bs : List Byte) (he : e ≠ 0) :
    hostSetupEvent addr e bs s = .next (s.setAnswer .silent) := by
  have hacc : s.accepts addr e ≠ some .e0 := fun h =>
    he ((epOfToken_eq_e0_iff e).mp ((accepts_eq_some_iff s addr e .e0).mp h).1)
  unfold hostSetupEvent
  split
  next h => exact absurd h hacc
  next => rfl

/-- Endpoint 0 has no step for a SETUP of another length than 8 (log entry 9). -/
theorem hostSetupEvent_of_wrongLength {s : State} {bs : List Byte} (hen : (s.ep .e0).en = true)
    (hl : bs.length ≠ 8) : hostSetupEvent s.address 0 bs s = .refused .setupNotEightBytes := by
  rw [hostSetupEvent, (accepts_eq_some_iff s s.address 0 .e0).mpr ⟨rfl, rfl, hen⟩]
  dsimp only
  rw [(ofBytes_eq_none_iff bs).mpr hl]

/-- The registers an accepted SETUP writes, endpoint 0's whole register set among them. -/
theorem latchSetup_eq_update (s : State) (p : SetupPacket) : s.latchSetup p = { s with
    setupBuf := p
    setupPending := true
    eps := { s.eps with ep0 := { s.eps.ep0 with halt := false, txq := [], rxq := [], toggle := .data1 } }
    ctl := if s.ctl = .idle then .idle else .setupReceived } := by
  rw [latchSetup_eq]
  rfl

/-! ### OUT (R164) -/

/-- An accepted OUT of a packet longer than the endpoint's size has no step (log entry 9). -/
theorem hostOutEvent_of_oversize {s : State} {e : BitVec 4} {i : EpNum} {xs : List Byte} (hi : epOfToken e = some i)
    (hen : (s.ep i).en = true) (hl : (s.ep i).size.bytes < xs.length) :
    hostOutEvent s.address e xs s = .refused .oversizeOut := by
  rw [hostOutEvent, (accepts_eq_some_iff s s.address e i).mpr ⟨hi, rfl, hen⟩]
  exact if_pos hl

section
variable {s : State} {i : EpNum} (xs : List Byte)

/-- An IN endpoint sends nothing to an OUT. -/
theorem takeOut_of_in (hdir : (s.ep i).dir = .in) : s.takeOut i xs = s.setAnswer .silent := by
  rw [State.takeOut, if_pos hdir]

/-- An endpoint not halted holds the packet, or has no bank free and sends NAK. -/
theorem takeOut_of_both (hdir : (s.ep i).dir = .both) (hh : (s.ep i).halt = false) : s.takeOut i xs =
    if (s.ep i).rxq.length = banksCount (s.ep i).banks then s.setAnswer .nak
    else (s.setEp i { s.ep i with rxq := (s.ep i).rxq ++ [xs] }).setAnswer .ack := by
  rw [State.takeOut, if_neg (by simp [hdir]), if_neg (by simp [hh])]

end

/-! ### Bus reset (R168) -/

/-- The state a bus reset leaves at its event, `c` being what becomes of a dispatcher that waits (R168). -/
def State.afterBusReset (s : State) (c : Ctl) : State :=
  { s with address := 0, setupPending := false, resetPending := true, eps := s.disableApp.eps, ctl := c,
           answer := .silent }

@[simp] theorem afterBusReset_ep_e0 (s : State) (c : Ctl) : (s.afterBusReset c).ep .e0 = s.ep .e0 := rfl

@[simp] theorem afterBusReset_ep_appNum (s : State) (c : Ctl) (a : AppEp) :
    (s.afterBusReset c).ep (appNum a) = (s.ep (appNum a)).disable := disableApp_ep_appNum s a

@[simp] theorem afterBusReset_params (s : State) (c : Ctl) : (s.afterBusReset c).params = s.params := rfl

theorem runMove_hostReset {s : State} {c : Ctl}
    (hc : s.params.resetInWait = .abort ∧ c = .idle ∨ s.params.resetInWait = .hold ∧ c = s.ctl) :
    runMove .hostReset s = .next (s.afterBusReset c) := by
  rw [runMove, hostResetEvent, busReset_eq hc]
  rfl

/-- The bus-reset work writes no slot (40_frame_and_reset.md R90). -/
@[simp] theorem resetWork_ep_appNum (s : State) (a : AppEp) : s.resetWork.ep (appNum a) = s.ep (appNum a) := by
  simp [State.resetWork]

@[simp] theorem resetWork_ep_e0 (s : State) : s.resetWork.ep .e0 = (s.ep .e0).defaultEp0 s.params := by
  simp [State.resetWork]

end Sys2Proof.Machine
end

section
/-! PROOFS. The endpoint engine (45_endpoint_engine.md): which tokens it accepts, its answers to SETUP, IN and OUT, the
start of frame and the bus reset. -/
namespace Sys2Proof.Proofs
open Machine

/-- Settles O32: the endpoint a token names is the one the hypothesis says is disabled, so none accepts it. -/
theorem unacceptedTokensChangeNothing : Obligations.UnacceptedTokensChangeNothing := by
  unfold Obligations.UnacceptedTokensChangeNothing
  intro s addr e bs h hm
  have hnone : s.popMove.accepts addr e = none := by
    rw [Option.eq_none_iff_forall_ne_some]
    intro i hi
    obtain ⟨hname, haddr, hen⟩ := (accepts_eq_some_iff s addr e i).mp hi
    rw [epOfToken_eq_some_iff] at hname
    rcases hname with ⟨hn, rfl⟩ | ⟨hn, rfl⟩ | ⟨hn, rfl⟩ | ⟨hn, rfl⟩ | ⟨hn, rfl⟩ <;>
    · simp only [State.ep, Endpoints.get] at hen
      simp [haddr, hn, hen] at h
  exact runMove_of_unaccepted hnone hm

/-- Settles O33: the latch at endpoint 0, and the SETUPs that are not latched. -/
theorem setupIsLatchedAndRestarts : Obligations.SetupIsLatchedAndRestarts := by
  unfold Obligations.SetupIsLatchedAndRestarts
  intro s p bs e
  refine ⟨fun hm hen => ?latched, fun hm he => ?ignored, fun hm hen hl => ?refused⟩
  case latched =>
    rw [step_of_nextMove hm]
    refine (hostSetupEvent_of_accepted (s := s.popMove) p rfl hen).trans ?_
    rw [latchSetup_eq_update]
    rfl
  case ignored =>
    rw [step_of_nextMove hm]
    exact hostSetupEvent_of_other (s := s.popMove) bs he
  case refused =>
    rw [step_of_nextMove hm]
    exact hostSetupEvent_of_wrongLength (s := s.popMove) hen hl

/-- Settles O34, by the halt bit and the armed packets. -/
theorem inTakesTheOldestPacket : Obligations.InTakesTheOldestPacket := by
  unfold Obligations.InTakesTheOldestPacket
  intro s e i hm hi hen
  rw [step_of_nextMove hm]
  have hin : runMove (.hostIn s.address e) s.popMove = .next (s.popMove.takeIn i) :=
    hostInEvent_of_accepted (s := s.popMove) hi hen
  refine ⟨fun hh => ?halted, fun hh hq => ?empty, fun xs rest hh hq => ?armed⟩
  case halted => exact hostInEvent_of_halt (s := s.popMove) hi rfl hen hh
  case empty => exact hin.trans (congrArg _ (takeIn_of_empty (s := s.popMove) hh hq))
  case armed =>
    exact ⟨_, hin.trans (congrArg _ (takeIn_of_cons (s := s.popMove) hh hq)), rfl, State.setEp_ep_same _ _ _,
      fun j hj => State.setEp_ep_of_ne _ _ _ hj⟩

/-- Settles O35, in the order R164 tests an endpoint. -/
theorem outIsHeldOrAnswered : Obligations.OutIsHeldOrAnswered := by
  unfold Obligations.OutIsHeldOrAnswered
  intro s e xs i hm hi hen
  rw [step_of_nextMove hm]
  refine ⟨fun hl => hostOutEvent_of_oversize (s := s.popMove) hi hen hl, fun hl => ?fits⟩
  have hout : runMove (.hostOut s.address e xs) s.popMove = .next (s.popMove.takeOut i xs) :=
    hostOutEvent_of_accepted (s := s.popMove) hi hen hl
  refine ⟨fun hd => ?silent, fun hd hh => ?halted, fun hd hh hq => ?full, fun hd hh hq => ?held⟩
  case silent => exact hout.trans (congrArg _ (takeOut_of_in (s := s.popMove) xs hd))
  case halted => exact hostOutEvent_of_halt (s := s.popMove) hi rfl hen hd hh hl
  case full =>
    exact hout.trans (congrArg _ ((takeOut_of_both (s := s.popMove) xs hd hh).trans (if_pos hq)))
  case held =>
    exact ⟨_, hout.trans (congrArg _ ((takeOut_of_both (s := s.popMove) xs hd hh).trans (if_neg hq))), rfl,
      State.setEp_ep_same _ _ _, fun j hj => State.setEp_ep_of_ne _ _ _ hj⟩

/-- Settles O37, by what `RESET_IN_WAIT` makes of the control state. -/
theorem busResetActsAtTheEvent : Obligations.BusResetActsAtTheEvent := by
  unfold Obligations.BusResetActsAtTheEvent
  intro s hm
  obtain ⟨c, hc⟩ := resetInWait_cases s
  have hstep : step s = .next (s.popMove.afterBusReset c) := (step_of_nextMove hm).trans (runMove_hostReset hc)
  refine ⟨_, hstep, ?registers, rfl, fun a => afterBusReset_ep_appNum s.popMove c a⟩
  case registers =>
    rcases hc with ⟨hr, rfl⟩ | ⟨hr, rfl⟩ <;>
    · rw [hr]
      rfl

/-- Settles O59: the event leaves the dispatcher idle, so the block's next turn is the reset work. -/
theorem busResetInTwoParts : Obligations.BusResetInTwoParts := by
  unfold Obligations.BusResetInTwoParts
  intro s hr
  have hevent : runMove .hostReset s = .next (s.afterBusReset .idle) := runMove_hostReset (.inl ⟨hr, rfl⟩)
  have hwork : runMove .block (s.afterBusReset .idle) = .next ((s.afterBusReset .idle).resetWork.setSofPending false) :=
    blockStep_of_reset rfl rfl
  refine ⟨_, play_cons_of_next hevent (play_cons_of_next hwork rfl), ?registers, ?ep0, fun a => ?slot⟩
  case registers => rfl
  case ep0 => simp [Endpoint.defaultEp0]
  case slot => simp [Endpoint.disable]

/-- Settles O36, endpoint by endpoint. -/
theorem tokenNumbersNameEndpoints : Obligations.TokenNumbersNameEndpoints := by
  unfold Obligations.TokenNumbersNameEndpoints
  exact ⟨epOfToken_eq_some_iff, epOfToken_tokenOf⟩

/-- Settles O38: the event is that one write. -/
theorem startOfFrameSetsItsPendingBit : Obligations.StartOfFrameSetsItsPendingBit := by
  unfold Obligations.StartOfFrameSetsItsPendingBit
  intro s hm
  rw [step_of_nextMove hm]
  rfl

end Sys2Proof.Proofs
end

section
/-! SUPPORT. Which moves of the interleaving complete: the block's turn on a loaded ROM (20_memory.md R54,
45_endpoint_engine.md R159), and every bus event but two packets the host is assumed never to send (R171). -/
namespace Sys2Proof.Machine

/-! ### The block's turn -/

/-- A turn of the frame handler leaves no frame event waiting (40_frame_and_reset.md R89). -/
theorem frameStep_consumes_events {s t : State} (h : s.frameStep = .ok t) :
    t.resetPending = false ∧ t.sofPending = false := by
  obtain ⟨u, q, n, ps, ⟨hr, rfl⟩ | ⟨-, rfl⟩, rfl⟩ := frameStep_cases h
  · exact ⟨hr, rfl⟩
  · exact ⟨rfl, rfl⟩

/-- An enabled dispatcher reads only loaded ROM bytes, arms only a ready endpoint 0, and cuts its chunks to the
default configuration's size. -/
theorem dispatcherStep_ok {s : State} (hrom : s.RomLoaded) (hep0 : (s.ep .e0).en = true → s.Ep0Default)
    (hd : s.dispatcherEnabled = true) : ∃ t, dispatcherStep s = .next t := by
  have decodes (hc : s.ctl = .idle ∨ s.ctl = .setupReceived) : ∃ t, dispatcherStep s = .next t := by
    rw [dispatcherStep_of_decode hc]
    exact exec_ok_of_romLoaded (s := s.setSetupPending false) _ hrom
  have ready (h : (∃ rest, s.ctl = .dataIn rest) ∨ s.ctl = .statusIn ∨ (∃ a, s.ctl = .statusInAddr a) ∨
      ∃ a, s.ctl = .addressWait a) : s.txReady .e0 = true := (dispatcherEnabled_of_bankWait h).2.symm.trans hd
  cases hc : s.ctl with
  | idle => exact decodes (.inl hc)
  | setupReceived => exact decodes (.inr hc)
  | dataIn rest =>
    have hready := ready (.inl ⟨rest, hc⟩)
    obtain ⟨-, -, -, hsize, -⟩ := hep0 ((txReady_iff _).mp hready).1
    rw [dispatcherStep, hc]
    exact ⟨_, congrArg resultOf (chunkStep_of_ready hready rfl (by rw [hsize]; exact Nat.min_le_right _ _))⟩
  | dataOut =>
    rw [dispatcherStep, hc]
    exact ⟨_, rfl⟩
  | statusIn =>
    rw [dispatcherStep, hc]
    exact ⟨_, congrArg resultOf (statusStep_of_ready (ready (.inr (.inl hc))))⟩
  | statusInAddr a =>
    rw [dispatcherStep, hc]
    exact ⟨_, congrArg resultOf (statusAddrStep_of_ready a (ready (.inr (.inr (.inl ⟨a, hc⟩)))))⟩
  | addressWait a =>
    rw [dispatcherStep, hc]
    exact ⟨_, rfl⟩

/-- The block's turn completes, whichever handler it runs (60_exceptions.md R183). -/
theorem blockStep_ok {s : State} (hrom : s.RomLoaded) (hep0 : (s.ep .e0).en = true → s.Ep0Default) :
    ∃ t, blockStep s = .next t := by
  unfold blockStep
  split_ifs with hf hd
  · obtain ⟨t, ht⟩ := frameStep_ok s
    exact ⟨t, by rw [ht]; rfl⟩
  · exact dispatcherStep_ok hrom hep0 hd
  · exact ⟨s, rfl⟩

/-! ### The environment's moves -/

/-- The move `m`, which the model refuses for `r`, is a packet the host is assumed never to send: an OUT longer than
the endpoint's size, or a SETUP to endpoint 0 of a length other than 8 (45_endpoint_engine.md R171, log entry 9). -/
def State.NeverSent (s : State) (m : Move) (r : Refusal) : Prop :=
  (∃ addr e xs, m = .hostOut addr e xs ∧ ∃ i, epOfToken e = some i ∧ (s.ep i).size.bytes < xs.length ∧
    r = .oversizeOut) ∨
  ∃ addr bs, m = .hostSetup addr 0 bs ∧ bs.length ≠ 8 ∧ r = .setupNotEightBytes

/-- A SETUP completes, unless its length is wrong and endpoint 0 accepts it (45_endpoint_engine.md R157). -/
theorem hostSetupEvent_outcome (addr : U7) (e : BitVec 4) (bs : List Byte) (s : State) :
    (∃ t, hostSetupEvent addr e bs s = .next t) ∨
      hostSetupEvent addr e bs s = .refused .setupNotEightBytes ∧ e = 0 ∧ bs.length ≠ 8 := by
  unfold hostSetupEvent
  split
  next hacc =>
    split
    next => exact .inl ⟨_, rfl⟩
    next hlen =>
      exact .inr ⟨rfl, (epOfToken_eq_e0_iff e).mp ((accepts_eq_some_iff s addr e .e0).mp hacc).1,
        (ofBytes_eq_none_iff bs).mp hlen⟩
  next => exact .inl ⟨_, rfl⟩

/-- An OUT completes, unless it is accepted and does not fit (45_endpoint_engine.md R164). -/
theorem hostOutEvent_outcome (addr : U7) (e : BitVec 4) (xs : List Byte) (s : State) :
    (∃ t, hostOutEvent addr e xs s = .next t) ∨
      hostOutEvent addr e xs s = .refused .oversizeOut ∧
        ∃ i, epOfToken e = some i ∧ (s.ep i).size.bytes < xs.length := by
  unfold hostOutEvent
  split
  next i hacc =>
    split
    next hl => exact .inr ⟨rfl, i, ((accepts_eq_some_iff s addr e i).mp hacc).1, hl⟩
    next => exact .inl ⟨_, rfl⟩
  next => exact .inl ⟨_, rfl⟩

theorem hostInEvent_ok (addr : U7) (e : BitVec 4) (s : State) : ∃ t, hostInEvent addr e s = .next t := by
  unfold hostInEvent
  split <;> exact ⟨_, rfl⟩

theorem appWriteEvent_ok (slot : KeySlot) (v : Byte) (s : State) : ∃ t, appWriteEvent slot v s = .next t := by
  unfold appWriteEvent
  split <;> exact ⟨_, rfl⟩

/-- Every move completes where the block's turn does, but for the packets the host never sends. -/
theorem runMove_outcome {s : State} (hblock : ∃ t, blockStep s = .next t) (m : Move) :
    (∃ t, runMove m s = .next t) ∨ ∃ r, runMove m s = .refused r ∧ s.NeverSent m r := by
  cases m with
  | block => exact .inl hblock
  | hostSetup addr e bs =>
    refine (hostSetupEvent_outcome addr e bs s).imp_right ?_
    rintro ⟨hr, rfl, hl⟩
    exact ⟨_, hr, .inr ⟨addr, bs, rfl, hl, rfl⟩⟩
  | hostOut addr e xs =>
    refine (hostOutEvent_outcome addr e xs s).imp_right ?_
    rintro ⟨hr, i, hi, hl⟩
    exact ⟨_, hr, .inl ⟨addr, e, xs, rfl, i, hi, hl, rfl⟩⟩
  | hostIn addr e => exact .inl (hostInEvent_ok addr e s)
  | appWrite slot v => exact .inl (appWriteEvent_ok slot v s)
  | hostSof | hostReset | appReadLeds => exact .inl ⟨_, rfl⟩

end Sys2Proof.Machine
end

section
/-! PROOFS. No model fault is reached, and the frame handler's turn before a waiting SETUP's (60_exceptions.md R178,
R183). -/
namespace Sys2Proof.Proofs
open Machine

/-- Settles O44: of the invariant the block's turn needs the loaded ROM and endpoint 0's default configuration; every
other move completes, or is refused as a packet the host never sends. -/
theorem noModelFaultIsReached : Obligations.NoModelFaultIsReached := by
  unfold Obligations.NoModelFaultIsReached
  intro s hinv
  have hblock : ∃ t, blockStep s.popMove = .next t := blockStep_ok (s := s.popMove) hinv.rom hinv.ep0
  refine ⟨fun hm => ?_, fun f hf => ?_, fun r hr => ?_⟩
  · rw [step_of_nextMove hm]
    exact hblock
  · rcases runMove_outcome hblock s.nextMove with ⟨t, ht⟩ | ⟨r, hr, -⟩
    · cases hf.symm.trans ht
    · cases hf.symm.trans hr
  · rcases runMove_outcome hblock s.nextMove with ⟨t, ht⟩ | ⟨r', hr', hsent⟩
    · cases hr.symm.trans ht
    · cases hr.symm.trans hr'
      exact hsent

/-- Settles O12: the turn is the frame handler's, which consumes both events and writes neither `ctl` nor a SETUP
register. -/
theorem frameHandlerStepsFirst : Obligations.FrameHandlerStepsFirst := by
  unfold Obligations.FrameHandlerStepsFirst
  intro s hm hc hp
  have hpending : s.popMove.framePending = true := Bool.or_eq_true_iff.mpr hp
  obtain ⟨t, ht⟩ := frameStep_ok s.popMove
  have hstep : step s = .next t := by
    rw [step_of_nextMove hm, runMove, blockStep_of_framePending (s := s.popMove) hc hpending, ht]
    rfl
  obtain ⟨hreset, hsof⟩ := frameStep_consumes_events ht
  obtain ⟨-, -, -, -, -, hsetup, hbuf, hctl, -⟩ := frameStep_keeps ht
  exact ⟨t, hstep, hreset, hsof, hctl.trans hc, hsetup, hbuf⟩

end Sys2Proof.Proofs
end

section
/-! SUPPORT. Which writes keep the invariant, register by register (10_state.md R39): the unconstrained registers, the
idle count, the dispatcher's transfer, one endpoint's queues, and the slots. -/
namespace Sys2Proof.Machine

/-! ### An endpoint's queues (10_state.md R32) -/

namespace Endpoint.QueuesFit

variable {e : Endpoint}

theorem of_empty (htx : e.txq = []) (hrx : e.rxq = []) : e.QueuesFit := by
  simp [Endpoint.QueuesFit, htx, hrx]

theorem arm (h : e.QueuesFit) {xs : List Byte} (hr : e.txReady = true) (hl : xs.length ≤ e.size.bytes) :
    { e with txq := e.txq ++ [xs] }.QueuesFit := by
  obtain ⟨-, hrx, htxs, hrxs⟩ := h
  have hfree := ((txReady_iff e).mp hr).2
  refine ⟨by simpa using hfree, hrx, fun ys hys => ?_, hrxs⟩
  rcases List.mem_append.mp hys with hys | hys
  · exact htxs ys hys
  · rwa [List.mem_singleton.mp hys]

theorem takeTx (h : e.QueuesFit) (g : Toggle) : { e with txq := e.txq.tail, toggle := g }.QueuesFit := by
  obtain ⟨htx, hrx, htxs, hrxs⟩ := h
  exact ⟨List.length_tail.le.trans ((Nat.sub_le _ _).trans htx), hrx, fun ys hys => htxs ys (List.mem_of_mem_tail hys),
    hrxs⟩

theorem dropRx (h : e.QueuesFit) : { e with rxq := e.rxq.tail }.QueuesFit := by
  obtain ⟨htx, hrx, htxs, hrxs⟩ := h
  exact ⟨htx, List.length_tail.le.trans ((Nat.sub_le _ _).trans hrx), htxs,
    fun ys hys => hrxs ys (List.mem_of_mem_tail hys)⟩

theorem holdRx (h : e.QueuesFit) {xs : List Byte} (hne : e.rxq.length ≠ banksCount e.banks)
    (hl : xs.length ≤ e.size.bytes) : { e with rxq := e.rxq ++ [xs] }.QueuesFit := by
  obtain ⟨htx, hrx, htxs, hrxs⟩ := h
  refine ⟨htx, by simpa using Nat.lt_of_le_of_ne hrx hne, htxs, fun ys hys => ?_⟩
  rcases List.mem_append.mp hys with hys | hys
  · exact hrxs ys hys
  · rwa [List.mem_singleton.mp hys]

end Endpoint.QueuesFit

/-! ### A slot (10_state.md R36) -/

/-- What the invariant asks of slot `a`: its queues fit, and enabled it is the keyboard slot of the Endpoint
Configuration Table. -/
def Endpoint.SlotFits (p : Params) (a : AppEp) (e : Endpoint) : Prop :=
  e.QueuesFit ∧ (e.en = true → a = p.kbdEp ∧ e.type = .interrupt ∧ e.dir = .in ∧ e.size = .b8 ∧ e.banks = p.kbdBanks)

theorem slotFits_disable (p : Params) (a : AppEp) (e : Endpoint) : e.disable.SlotFits p a :=
  ⟨.of_empty rfl rfl, fun hen => by cases hen⟩

theorem slotFits_configureSlot (p : Params) (a : AppEp) (e : Endpoint) :
    (configureSlot p a e.disable).SlotFits p a := by
  by_cases ha : a = p.kbdEp
  · subst ha
    rw [configureSlot_kbd]
    exact ⟨.of_empty rfl rfl, fun _ => ⟨rfl, rfl, rfl, rfl, rfl⟩⟩
  · rw [Proofs.configureSlot_of_ne ha]
    exact slotFits_disable p a e

/-! ### Registers -/

namespace State.Inv

variable {s t : State}

/-- The invariant says nothing of these registers. -/
theorem of_unconstrained (h : s.Inv) (ht : t = { s with
    keys := t.keys, protocol := t.protocol, leds := t.leds, fq := t.fq, address := t.address,
    sofPending := t.sofPending, setupBuf := t.setupBuf, lastStall := t.lastStall, env := t.env, answer := t.answer,
    draws := t.draws }) : t.Inv := by
  rw [ht]
  exact { h with }

/-- While a bus reset waits, the keyboard slot need not be enabled (10_state.md R39 (c)). -/
theorem setResetPending_true (h : s.Inv) : (s.setResetPending true).Inv :=
  { h with kbd := fun hr => absurd hr (by simp) }

theorem setCurrentConfiguration (h : s.Inv) (hk : (s.ep s.kbd).en = true) (v : Byte) :
    (s.setCurrentConfiguration v).Inv :=
  { h with kbd := fun _ _ => hk }

theorem setIdleCount (h : s.Inv) {n : Byte} (hn : n = 0 ∨ n.toNat < s.idleConfig.toNat) : (s.setIdleCount n).Inv :=
  { h with idle := hn }

theorem setIdle (h : s.Inv) (r : Byte) : ((s.setIdleConfig r).setIdleCount 0).Inv :=
  { h with idle := .inl rfl }

/-- The two registers of a control transfer in progress, on an endpoint 0 fit for them (41_dispatcher.md R103, R105). -/
theorem setTransfer (h : s.Inv) {p : Bool} {c : Ctl} (hlatched : p = true → c = .idle ∨ c = .setupReceived)
    (hactive : p = true ∨ c ≠ .idle → (s.ep .e0).en = true ∧ (s.ep .e0).halt = false)
    (hfresh : p = true ∨ c.bankUntouched → (s.ep .e0).txq = []) : ((s.setSetupPending p).setCtl c).Inv :=
  { h with latched := hlatched, active := hactive, fresh := hfresh }

theorem setSetupPending_false (h : s.Inv) : (s.setSetupPending false).Inv :=
  h.setTransfer (p := false) (c := s.ctl) (fun hp => by cases hp) (fun hp => h.active (hp.imp_left fun hf => by cases hf))
    (fun hp => h.fresh (hp.imp_left fun hf => by cases hf))

theorem setCtl (h : s.Inv) (hp : s.setupPending = false) {c : Ctl}
    (hactive : c ≠ .idle → (s.ep .e0).en = true ∧ (s.ep .e0).halt = false)
    (hfresh : c.bankUntouched → (s.ep .e0).txq = []) : (s.setCtl c).Inv :=
  h.setTransfer (p := s.setupPending) (by simp [hp]) (by simpa [hp] using hactive) (by simpa [hp] using hfresh)

theorem setCtl_idle (h : s.Inv) (hp : s.setupPending = false) : (s.setCtl .idle).Inv :=
  h.setCtl hp (fun hne => absurd rfl hne) False.elim

/-! ### Endpoints -/

/-- A write of one endpoint's halt, toggle and queues; a transfer in progress needs endpoint 0 unhalted and its bank
untouched. -/
theorem setEp (h : s.Inv) {i : EpNum} {e : Endpoint}
    (he : e = { s.ep i with halt := e.halt, toggle := e.toggle, txq := e.txq, rxq := e.rxq }) (hq : e.QueuesFit)
    (hactive : i = .e0 → s.setupPending = true ∨ s.ctl ≠ .idle → e.halt = false)
    (hfresh : i = .e0 → s.setupPending = true ∨ s.ctl.bankUntouched → e.txq = []) : (s.setEp i e).Inv := by
  have hconf (j : EpNum) : ∃ e' : Endpoint, (s.setEp i e).ep j =
      { s.ep j with halt := e'.halt, toggle := e'.toggle, txq := e'.txq, rxq := e'.rxq } := by
    by_cases hj : j = i
    · subst hj
      exact ⟨e, (s.setEp_ep_same j e).trans he⟩
    · exact ⟨s.ep j, s.setEp_ep_of_ne i e hj⟩
  obtain ⟨e0, h0⟩ := hconf .e0
  refine { h with
    queues := fun j => ?queues, ep0 := ?ep0, setupIe := ?setupIe, app := fun a => ?app, kbd := fun hr hc => ?kbd,
    active := fun hp => ?active, fresh := fun hp => ?fresh }
  case queues =>
    rw [State.setEp_ep]
    split
    · exact hq
    · exact h.queues j
  case ep0 =>
    rw [State.Ep0Default, h0]
    exact h.ep0
  case setupIe =>
    rw [h0]
    exact h.setupIe
  case app =>
    obtain ⟨ea, ha⟩ := hconf (appNum a)
    rw [ha]
    exact h.app a
  case kbd =>
    obtain ⟨ek, hk⟩ := hconf s.kbd
    exact (congrArg Endpoint.en hk).trans (h.kbd hr hc)
  case active =>
    obtain ⟨hen, hhalt⟩ := h.active hp
    refine ⟨(congrArg Endpoint.en h0).trans hen, ?_⟩
    rw [State.setEp_ep]
    split
    next hi => exact hactive hi.symm hp
    next => exact hhalt
  case fresh =>
    rw [State.setEp_ep]
    split
    next hi => exact hfresh hi.symm hp
    next => exact h.fresh hp

theorem setSlotHalt (h : s.Inv) (a : AppEp) (b : Bool) (g : Toggle) :
    (s.setEp (appNum a) { s.ep (appNum a) with halt := b, toggle := g }).Inv :=
  h.setEp rfl (h.queues (appNum a)) (fun ha => absurd ha (appNum_ne_e0 a)) (fun ha => absurd ha (appNum_ne_e0 a))

/-- A write that keeps the halt bit needs endpoint 0's bank left untouched where a transfer has it so. -/
theorem setQueues (h : s.Inv) {i : EpNum} {g : Toggle} {tq rq : List (List Byte)}
    (hq : { s.ep i with toggle := g, txq := tq, rxq := rq }.QueuesFit)
    (hfresh : i = .e0 → s.setupPending = true ∨ s.ctl.bankUntouched → tq = []) :
    (s.setEp i { s.ep i with toggle := g, txq := tq, rxq := rq }).Inv :=
  h.setEp rfl hq (fun hi hp => by subst hi; exact (h.active hp).2) hfresh

theorem setRxq (h : s.Inv) {i : EpNum} {rq : List (List Byte)} (hq : { s.ep i with rxq := rq }.QueuesFit) :
    (s.setEp i { s.ep i with rxq := rq }).Inv :=
  h.setQueues hq (fun hi hp => by subst hi; exact h.fresh hp)

/-- All slots rewritten, each as the table has it, and the keyboard slot enabled where the configuration asks for it
(10_state.md R36, R39 (c)). -/
theorem mapApp (h : s.Inv) {f : AppEp → Endpoint → Endpoint}
    (hfits : ∀ a, (f a (s.ep (appNum a))).SlotFits s.params a)
    (hkbd : s.resetPending = true ∨ (f s.params.kbdEp (s.ep s.kbd)).en = true) : (s.setEps (s.eps.mapApp f)).Inv := by
  have hslot (a : AppEp) : (s.setEps (s.eps.mapApp f)).ep (appNum a) = f a (s.ep (appNum a)) := mapApp_get_app s.eps f a
  refine { h with queues := fun i => ?queues, app := fun a => ?app, kbd := fun hr _ => ?kbd }
  case queues =>
    obtain rfl | ⟨a, rfl⟩ := epNum_cases i
    · exact h.queues .e0
    · rw [hslot]
      exact (hfits a).1
  case app =>
    rw [hslot]
    exact (hfits a).2
  case kbd =>
    exact (congrArg Endpoint.en (hslot s.params.kbdEp)).trans (hkbd.resolve_left (by simpa using hr))

theorem disableApp (h : s.Inv) (hr : s.resetPending = true) : s.disableApp.Inv :=
  h.mapApp (fun a => slotFits_disable _ a _) (.inl hr)

/-- The slots as a SET_CONFIGURATION leaves them (42_standard_requests.md R120). -/
theorem configure (h : s.Inv) (v : Byte) : (((s.setCurrentConfiguration v).disableApp).configureApp).Inv := by
  have hkbd : (configureSlot s.params s.params.kbdEp (s.ep s.kbd).disable).en = true := by rw [configureSlot_kbd]
  have hslots : (s.setEps (s.eps.mapApp fun a e => configureSlot s.params a e.disable)).Inv :=
    h.mapApp (fun a => slotFits_configureSlot _ a _) (.inr hkbd)
  exact hslots.setCurrentConfiguration ((congrArg Endpoint.en (mapApp_get_app _ _ _)).trans hkbd) v

/-- The bus-reset work (40_frame_and_reset.md R90). -/
theorem resetWork (h : s.Inv) : s.resetWork.Inv := by
  refine { h with
    queues := fun i => ?queues, ep0 := fun _ => ?ep0, setupIe := ?setupIe, app := fun a => ?app,
    kbd := fun _ hc => absurd rfl hc, active := fun _ => ?active, fresh := fun _ => ?fresh }
  case queues =>
    obtain rfl | ⟨a, rfl⟩ := epNum_cases i
    · rw [resetWork_ep_e0]
      exact .of_empty rfl rfl
    · rw [resetWork_ep_appNum]
      exact h.queues _
  case app =>
    rw [resetWork_ep_appNum]
    exact h.app a
  case ep0 => exact ⟨rfl, rfl, rfl, rfl, rfl⟩
  case setupIe => rfl
  case active => exact ⟨rfl, rfl⟩
  case fresh => rfl

/-! ### Turns of the frame handler -/

/-- A count short of `idle_config` does not wrap (40_frame_and_reset.md R92). -/
theorem idleCount_succ (h : s.Inv) (hz : s.idleConfig ≠ 0#8) (hc : s.idleCount + 1#8 ≠ s.idleConfig) :
    (s.idleCount + 1#8).toNat < s.idleConfig.toNat := by
  obtain h0 | hlt := h.idle <;> bv_omega

theorem armTx (h : s.Inv) {i : EpNum} {xs : List Byte} (hr : s.txReady i = true) (hl : xs.length ≤ (s.ep i).size.bytes)
    (hi : i = .e0 → s.setupPending = false ∧ ¬ s.ctl.bankUntouched) : (s.appendTx i [xs]).Inv := by
  refine h.setQueues ((h.queues i).arm hr hl) (fun h0 hp => ?_)
  obtain ⟨hf, hc⟩ := hi h0
  exact absurd hp (by simp [hf, hc])

theorem idleTick (h : s.Inv) (ht : s.idleTick = .ok t) : t.Inv := by
  obtain ⟨-, he⟩ | ⟨hz, -, hc, he⟩ | ⟨-, hr, -, he⟩ := idleTick_cases s <;> cases ht.symm.trans he
  · exact h
  · exact h.setIdleCount (.inr (h.idleCount_succ hz hc))
  · exact (h.setIdleCount (.inl rfl)).armTx hr (eight_le_bytes _) (fun hk => absurd hk (appNum_ne_e0 _))

theorem sofWork (h : s.Inv) (ht : s.sofWork = .ok t) : t.Inv := by
  have hu (q : BitVec 2) : ((s.setSofPending false).setFq q).Inv := h.of_unconstrained rfl
  by_cases hc : s.currentConfiguration = 0#8
  · cases ht.symm.trans (sofWork_of_unconfigured hc)
    exact hu s.fq
  · by_cases hq : s.fq + 1#2 = 0#2
    · rw [sofWork_of_tick hc hq] at ht
      exact (hu _).idleTick ht
    · cases ht.symm.trans (sofWork_of_no_tick hc hq)
      exact hu _

theorem frameStep (h : s.Inv) (ht : s.frameStep = .ok t) : t.Inv := by
  cases hr : s.resetPending with
  | true =>
    cases ht.symm.trans (frameStep_of_reset hr)
    exact h.resetWork.of_unconstrained rfl
  | false =>
    cases hs : s.sofPending with
    | true =>
      rw [frameStep_of_sof hr hs] at ht
      exact h.sofWork ht
    | false =>
      have hnone : s.frameStep = .ok s := by simp [State.frameStep, hr, hs]
      cases ht.symm.trans hnone
      exact h

/-! ### Turns of the dispatcher -/

/-- `Execute(a)` on an endpoint 0 as a SETUP leaves it (41_dispatcher.md R103, R104). -/
theorem exec (h : s.Inv) {i : Instr} (hp : s.setupPending = false)
    (hactive : (s.ep .e0).en = true ∧ (s.ep .e0).halt = false) (hfresh : (s.ep .e0).txq = [])
    (hx : exec i s = .next t) : t.Inv := by
  have toCtl {u : State} (hu : u.Inv) (hpu : u.setupPending = s.setupPending) (h0 : u.ep .e0 = s.ep .e0) (c : Ctl) :
      (u.setCtl c).Inv :=
    hu.setCtl (hpu.trans hp) (fun _ => by rwa [h0]) (fun _ => by rwa [h0])
  cases exec_effect hx with
  | ctlOnly _ c => exact toCtl h rfl rfl c
  | setIdle r => exact toCtl (h.setIdle r) rfl rfl _
  | setProtocol p => exact toCtl (u := s.setProtocol p) (h.of_unconstrained rfl) rfl rfl _
  | setConfiguration v => exact toCtl (h.configure v) rfl rfl _
  | setHalt a => exact toCtl (h.setSlotHalt a true _) rfl (setEp_appNum_ep_e0 _ _ _) _
  | clearHalt a =>
    rw [State.clearStall, State.setToggle, State.setEp_ep_same, setEp_setEp]
    exact toCtl (h.setSlotHalt a false .data0) rfl (setEp_appNum_ep_e0 _ _ _) _
  | stall c p =>
    have hidle : ((s.setLastStall (some c)).setCtl .idle).Inv := (h.setCtl_idle hp).of_unconstrained rfl
    exact hidle.setEp (i := .e0) rfl (h.queues .e0) (fun _ hn => absurd hn (by simp [hp]))
      (fun _ hn => absurd hn (by simp [hp, Ctl.bankUntouched]))

/-- Where the dispatcher waits in another state than the decode step's, no SETUP is pending (41_dispatcher.md R105). -/
theorem setupPending_of_waiting (h : s.Inv) (hi : s.ctl ≠ .idle) (hr : s.ctl ≠ .setupReceived) :
    s.setupPending = false := by
  by_contra hp
  exact (h.latched (by simpa using hp)).elim hi hr

/-- The packet armed at the end of a wait is the last of its transfer or one of a data stage: nothing in the next
control state needs the bank free. -/
theorem armAndSetCtl (h : s.Inv) {xs : List Byte} {c : Ctl} (hi : s.ctl ≠ .idle) (hr : s.ctl ≠ .setupReceived)
    (hready : s.txReady .e0 = true) (hl : xs.length ≤ (s.ep .e0).size.bytes) (hc : ¬ c.bankUntouched) :
    ((s.appendTx .e0 [xs]).setCtl c).Inv :=
  have hp := h.setupPending_of_waiting hi hr
  (h.setCtl hp (fun _ => h.active (.inr hi)) (fun hu => absurd hu hc)).armTx hready hl fun _ => ⟨hp, hc⟩

theorem afterChunk_not_bankUntouched (m : Nat) (rest : List Byte) : ¬ (Ctl.afterChunk m rest).bankUntouched := by
  unfold Ctl.afterChunk
  split <;> exact id

theorem decodeStep (h : s.Inv) (hactive : (s.ep .e0).en = true ∧ (s.ep .e0).halt = false)
    (hfresh : (s.ep .e0).txq = []) (ht : decodeStep s = .next t) : t.Inv :=
  h.setSetupPending_false.exec rfl hactive hfresh ht

/-- The SET_REPORT byte's step reads and releases the packet, and leaves the bank free for the status packet. -/
theorem reportByteStep (h : s.Inv) (hc : s.ctl = .dataOut) : (reportByteStep s).Inv := by
  have hp := h.setupPending_of_waiting (by simp [hc]) (by simp [hc])
  have hctl : (s.setCtl .statusIn).Inv :=
    h.setCtl hp (fun _ => h.active (.inr (by simp [hc]))) (fun _ => h.fresh (.inr (by simp [hc, Ctl.bankUntouched])))
  obtain ⟨b, n, hb⟩ := reportByteStep_eq s
  rw [hb]
  exact (hctl.setRxq (h.queues .e0).dropRx).of_unconstrained rfl

theorem dispatcherStep (h : s.Inv) (hd : s.dispatcherEnabled = true) (ht : dispatcherStep s = .next t) : t.Inv := by
  have ready (hw : (∃ rest, s.ctl = .dataIn rest) ∨ s.ctl = .statusIn ∨ (∃ a, s.ctl = .statusInAddr a) ∨
      ∃ a, s.ctl = .addressWait a) : s.txReady .e0 = true := (dispatcherEnabled_of_bankWait hw).2.symm.trans hd
  unfold Machine.dispatcherStep at ht
  cases hc : s.ctl with
  | idle =>
    rw [hc] at ht
    have hp : s.setupPending = true := by
      rw [dispatcherEnabled_of_idle hc, Bool.and_eq_true, Bool.and_eq_true] at hd
      exact hd.1.1
    exact h.decodeStep (h.active (.inl hp)) (h.fresh (.inl hp)) ht
  | setupReceived =>
    rw [hc] at ht
    exact h.decodeStep (h.active (.inr (by simp [hc]))) (h.fresh (.inr (by simp [hc, Ctl.bankUntouched]))) ht
  | dataIn rest =>
    rw [hc] at ht
    have hready := ready (.inl ⟨rest, hc⟩)
    obtain ⟨-, -, -, hsize, -⟩ := h.ep0 ((txReady_iff _).mp hready).1
    have hchunk : chunkStep rest s = .ok t := resultOf_eq_next.mp ht
    cases hchunk.symm.trans (chunkStep_of_ready hready rfl (by rw [hsize]; exact Nat.min_le_right _ _))
    exact h.armAndSetCtl (by simp [hc]) (by simp [hc]) hready (by rw [hsize]; exact List.length_take_le _ _)
      (afterChunk_not_bankUntouched _ _)
  | dataOut =>
    rw [hc] at ht
    cases ht
    exact h.reportByteStep hc
  | statusIn =>
    rw [hc] at ht
    cases statusStep_ok (resultOf_eq_next.mp ht)
    exact h.armAndSetCtl (by simp [hc]) (by simp [hc]) (ready (.inr (.inl hc))) (Nat.zero_le _) id
  | statusInAddr a =>
    rw [hc] at ht
    cases statusAddrStep_ok (resultOf_eq_next.mp ht)
    exact h.armAndSetCtl (by simp [hc]) (by simp [hc]) (ready (.inr (.inr (.inl ⟨a, hc⟩)))) (Nat.zero_le _) id
  | addressWait a =>
    rw [hc] at ht
    cases ht
    have hp := h.setupPending_of_waiting (by simp [hc]) (by simp [hc])
    exact (h.setCtl_idle hp).of_unconstrained rfl

theorem blockStep (h : s.Inv) (ht : blockStep s = .next t) : t.Inv := by
  cases hf : s.frameEnabled with
  | true => exact h.frameStep (blockStep_of_frame hf ht)
  | false =>
    obtain ⟨hd, hs⟩ | ⟨-, rfl⟩ := blockStep_of_not_frame hf ht
    · exact h.dispatcherStep hd hs
    · exact h

/-! ### Moves of the host and the application -/

/-- A SETUP leaves endpoint 0 as its decode step needs it, and its dispatcher idle or restarted
(45_endpoint_engine.md R157). -/
theorem latchSetup (h : s.Inv) (hen : (s.ep .e0).en = true) (p : SetupPacket) : (s.latchSetup p).Inv := by
  have hbuf : (s.setSetupBuf p).Inv := h.of_unconstrained rfl
  have hep : ((s.setSetupBuf p).setEp .e0
      { s.ep .e0 with halt := false, toggle := .data1, txq := [], rxq := [] }).Inv :=
    hbuf.setEp (i := .e0) rfl (.of_empty rfl rfl) (fun _ _ => rfl) (fun _ _ => rfl)
  rw [latchSetup_eq]
  refine hep.setTransfer (fun _ => ?_) (fun _ => ⟨hen, rfl⟩) (fun _ => rfl)
  split
  · exact .inl rfl
  · exact .inr rfl

theorem hostSetupEvent (h : s.Inv) {addr : U7} {e : BitVec 4} {bs : List Byte}
    (ht : hostSetupEvent addr e bs s = .next t) : t.Inv := by
  obtain ⟨⟨-, -, hen⟩, p, rfl⟩ | ⟨-, rfl⟩ := hostSetupEvent_cases ht
  · exact (h.latchSetup hen p).of_unconstrained rfl
  · exact h.of_unconstrained rfl

theorem hostInEvent (h : s.Inv) {addr : U7} {e : BitVec 4} (ht : hostInEvent addr e s = .next t) : t.Inv := by
  obtain ⟨x, rfl | ⟨i, rfl⟩⟩ := hostInEvent_cases ht
  · exact h.of_unconstrained rfl
  · have htaken : (s.setEp i { s.ep i with txq := (s.ep i).txq.tail, toggle := (s.ep i).toggle.flip }).Inv :=
      h.setQueues ((h.queues i).takeTx _) (fun hi hp => by subst hi; exact congrArg List.tail (h.fresh hp))
    exact htaken.of_unconstrained rfl

/-- An OUT that fits is held only where a bank is free (45_endpoint_engine.md R164). -/
theorem takeOut (h : s.Inv) {i : EpNum} {xs : List Byte} (hl : xs.length ≤ (s.ep i).size.bytes) :
    (s.takeOut i xs).Inv := by
  unfold State.takeOut
  split_ifs with hdir hhalt hfull
  · exact h.of_unconstrained rfl
  · exact h.of_unconstrained rfl
  · exact h.of_unconstrained rfl
  · exact (h.setRxq ((h.queues i).holdRx hfull hl)).of_unconstrained rfl

theorem hostOutEvent (h : s.Inv) {addr : U7} {e : BitVec 4} {xs : List Byte}
    (ht : hostOutEvent addr e xs s = .next t) : t.Inv := by
  unfold Machine.hostOutEvent at ht
  split at ht
  next i _ =>
    split at ht
    next => cases ht
    next hl =>
      cases ht
      exact h.takeOut (Nat.le_of_not_lt hl)
  next =>
    cases ht
    exact h.of_unconstrained rfl

/-- At the event the reset starts to wait, the slots are disabled, no SETUP stays pending, and the dispatcher aborts or
goes on (45_endpoint_engine.md R168). -/
theorem busReset (h : s.Inv) : s.busReset.Inv := by
  obtain ⟨c, hc⟩ := resetInWait_cases s
  have hslots : ((s.setResetPending true).disableApp).Inv := h.setResetPending_true.disableApp rfl
  have hwritten : (((s.setResetPending true).disableApp.setSetupPending false).setCtl c).Inv := by
    obtain ⟨-, rfl⟩ | ⟨-, rfl⟩ := hc
    · exact hslots.setSetupPending_false.setCtl_idle rfl
    · exact hslots.setSetupPending_false
  rw [busReset_eq hc]
  exact hwritten.of_unconstrained rfl

theorem appWriteEvent (h : s.Inv) {slot : KeySlot} {v : Byte} (ht : appWriteEvent slot v s = .next t) : t.Inv := by
  unfold Machine.appWriteEvent at ht
  split at ht <;> cases ht <;> exact h.of_unconstrained rfl

/-- Every move of the interleaving keeps the invariant. -/
theorem runMove (h : s.Inv) {m : Move} (ht : runMove m s = .next t) : t.Inv := by
  cases m with
  | block => exact h.blockStep ht
  | hostSetup addr e bs => exact h.hostSetupEvent ht
  | hostIn addr e => exact h.hostInEvent ht
  | hostOut addr e xs => exact h.hostOutEvent ht
  | hostReset =>
    cases ht
    exact h.busReset.of_unconstrained rfl
  | appWrite slot v => exact h.appWriteEvent ht
  | hostSof | appReadLeds =>
    cases ht
    exact h.of_unconstrained rfl

end State.Inv

/-! ### Power-on (70_reset_and_hazards.md R195) -/

@[simp] theorem reset_ep (i : EpNum) : State.reset.ep i = .powerOn := by cases i <;> rfl

end Sys2Proof.Machine
end

section
/-! PROOFS. The state at power-on (70_reset_and_hazards.md R195), and the invariant of the reachable states. -/
namespace Sys2Proof.Proofs
open Machine

/-- Settles O43: a step is one agent's move, and each agent's writes keep the invariant. -/
theorem stepKeepsTheInvariant : Obligations.StepKeepsTheInvariant := by
  unfold Obligations.StepKeepsTheInvariant
  intro s t h ht
  have hpop : s.popMove.Inv := h.of_unconstrained rfl
  exact hpop.runMove ht

/-- Settles O40: each register's value is the one `State.reset` writes, and every endpoint is as at power-on. -/
theorem powerOnValues : Obligations.PowerOnValues := by
  unfold Obligations.PowerOnValues
  refine ⟨rfl, rfl, rfl, rfl, rfl, rfl, rfl, rfl, rfl, rfl, rfl, rfl, rfl, rfl, fun i => ?_⟩
  rw [reset_ep]
  exact ⟨rfl, rfl, rfl, rfl, rfl⟩

theorem reset_romLoaded : State.reset.RomLoaded := by
  refine ⟨reset_rom_wf, fun a ha => ?_⟩
  have hl : a < (romImage Config.params Config.desc Config.rptDesc).length := by
    rw [romImage_length, rptDesc_length]
    exact ha
  rw [readCell_reset_rom, List.getElem?_eq_getElem hl]
  rfl

/-- Settles O42: the ROM's image fills its addresses, every endpoint is disabled with empty queues, and nothing is
pending, configured or counted. -/
theorem resetMeetsTheInvariant : Obligations.ResetMeetsTheInvariant where
  rptLen := ⟨Nat.le_add_left 1 _, Nat.le_of_lt_succ params_rptLen_lt⟩
  rom := reset_romLoaded
  queues i := .of_empty (by rw [reset_ep]; rfl) (by rw [reset_ep]; rfl)
  ep0 hen := by cases hen
  setupIe := rfl
  app a hen := by
    rw [reset_ep] at hen
    cases hen
  kbd _ hc := absurd rfl hc
  latched hp := by cases hp
  active hp := hp.elim (fun hp => by cases hp) (fun hc => absurd rfl hc)
  fresh _ := rfl
  idle := .inl rfl

end Sys2Proof.Proofs
end
